-- ==== Sys2Proof/Word.lean ====
section
/-! DEFINITION. The two widths of this hardware: a byte on the data bus and a 16-bit address (spec/00_scope.md R7). -/

namespace Sys2Proof

/-- `u8`: a bus datum, the registers A, X, Y, S and P (R7). -/
abbrev Byte := BitVec 8

/-- `u16`: a bus address and the register PC (R7). -/
abbrev Word := BitVec 16

end Sys2Proof
end

