-- ==== Sys2Proof/Config.lean ====
section
/-! DEFINITION. The implementation parameters of spec/00_scope.md R8 to R16, the static part of the memory map
(spec/20_memory.md R78, R79), and the one free value of the model: what an I/O device answers. -/

namespace Sys2Proof

/-- `PC_OVERFLOW` (R8): what a PC write outside 0..0xFFFF does. -/
inductive PcOverflow where
  | clamp | wrap
  deriving DecidableEq, Repr

/-- `DECIMAL_MODE` (R9): decimal ADC and SBC, or the source's NotImplemented fault. -/
inductive DecimalMode where
  | bcd65c02 | fault
  deriving DecidableEq, Repr

/-- `BRK_MASKED` (R10): what BRK does while P.I = 1. -/
inductive BrkMasked where
  | nop | halt | hardware
  deriving DecidableEq, Repr

/-- `BRK_RETURN_OFFSET` (R11): the two values the spec allows. -/
inductive BrkReturnOffset where
  | one | two
  deriving DecidableEq, Repr

/-- The number a `BRK_RETURN_OFFSET` stands for (R11). -/
def BrkReturnOffset.value : BrkReturnOffset → Word
  | .one => 1
  | .two => 2

/-- The 18 chip-select identities (R79): RAM, ROM, IO0..IOF. -/
inductive ChipSelect where
  | ram
  | rom
  | io (n : Fin 16)
  deriving DecidableEq, Repr

/-- The chip-selects IO0..IOF, whose devices are outside the specified block (R84). -/
def ChipSelect.isIo : ChipSelect → Bool
  | .io _ => true
  | .ram => false
  | .rom => false

/-- A device's `mode` (R13). -/
inductive DeviceMode where
  | read | write | readWrite
  deriving DecidableEq, Repr

/-- `mode ∈ {Read, ReadWrite}` (R80). -/
def DeviceMode.canRead : DeviceMode → Bool
  | .read => true
  | .write => false
  | .readWrite => true

/-- `mode ∈ {Write, ReadWrite}` (R81). -/
def DeviceMode.canWrite : DeviceMode → Bool
  | .read => false
  | .write => true
  | .readWrite => true

/-- One row of the address-range table (R13): both ends are in the range. -/
structure AddressRange where
  start : Word
  stop : Word
  chip : ChipSelect
  deriving DecidableEq, Repr

/-- The configured attributes of one attached device (R13). `rom32k` marks the 32K ROM variant, which takes only
images of exactly 32768 bytes (R91). -/
structure DeviceAttr where
  name : String
  startAddress : Word
  endAddress : Word
  enabled : Bool
  mappedIo : ChipSelect
  mode : DeviceMode
  capacity : Nat
  rom32k : Bool
  deriving DecidableEq, Repr

/-- `RESET_REGS` (R15). -/
structure ResetRegs where
  a : Byte
  x : Byte
  y : Byte
  n : Bool
  v : Bool
  z : Bool
  c : Bool
  deriving DecidableEq, Repr

/-- The parameters of R8 to R16. `ranges` is the range table of `MEMORY_MAP`; the devices, whose arrays are state
(R90), stand in State with their attributes. `romFill` is the model's own: what a ROM cell reads as that its listed
contents do not name (R91 leaves such cells to the launch; log entry 4). -/
structure Config where
  pcOverflow : PcOverflow
  decimalMode : DecimalMode
  brkMasked : BrkMasked
  brkReturnOffset : BrkReturnOffset
  rockwellBitOps : Bool
  ranges : List AddressRange
  openBusValue : Byte
  resetRegs : ResetRegs
  ramFill : Byte
  romFill : Byte
  deriving DecidableEq, Repr

/-- The defaults of R8 to R16 (spec/93_implementation_defined.md section 2). `MEMORY_MAP` has no default there; the
ranges are those of map M1, which spec/95_test_vectors.md section 0 calls its default (DESIGN CHOICE, log entry 3). -/
def Config.standard : Config where
  pcOverflow := .clamp
  decimalMode := .bcd65c02
  brkMasked := .nop
  brkReturnOffset := .two
  rockwellBitOps := true
  ranges := [⟨0x0000, 0x7FFF, .ram⟩, ⟨0x8000, 0xFFFF, .rom⟩]
  openBusValue := 0x00
  resetRegs := ⟨0, 0, 0, false, false, false, false⟩
  ramFill := 0xEA
  romFill := 0xEA

/-- What an array cell that is not listed reads as: `RAM_FILL` in a RAM (R16, R85), `romFill` in a ROM (R91). -/
def Config.fill (cfg : Config) : ChipSelect → Byte
  | .rom => cfg.romFill
  | .ram => cfg.ramFill
  | .io _ => cfg.ramFill

/-- What has acted on an I/O device's own state: a transaction it serviced (R84), or one step of its asynchronous agent
(R97), of the kind `choice`: the agent's behaviour is outside the block, so any number of kinds may differ. -/
inductive IoActivity where
  | read (addr : Word)
  | write (addr : Word) (v : Byte)
  | ownStep (choice : Nat)
  deriving DecidableEq, Repr

/-- FREE VALUE (R84: the read of an I/O device "is a draw: any byte"). The byte the device on chip-select `chip`
answers to a read of `addr` after the activity `history` (newest first). It has no body, so every claim holds whatever
the device answers; because the history grows at every access and at every step of the device's agent, each read of a
run is its own draw, and an agent's step may change what is read next (log entry 5). -/
opaque Config.ioRead (chip : ChipSelect) (history : List IoActivity) (addr : Word) : Byte

end Sys2Proof
end

