-- ==== Sys2Proof/Machine/Bits.lean ====
section
/-! DEFINITION. Bit-field, byte-order and sign-extension helpers (spec/00_scope.md R17, spec/20_memory.md R75). -/

namespace Sys2Proof.Machine

/-- `hi ++ lo` of R17: a little-endian pair of bytes as a word. -/
def wordOf (hi lo : Byte) : Word := hi ++ lo

/-- Bits 15..8. -/
def hiByte (w : Word) : Byte := w.extractLsb' 8 8

/-- Bits 7..0. -/
def loByte (w : Word) : Byte := w.extractLsb' 0 8

/-- `zext_16(v)` (R17). For a zero-page byte it is the address `0x00 ++ z` (R123). -/
def zext (b : Byte) : Word := b.setWidth 16

/-- `s8(v)`: the byte read as two's complement, -128..127 (R17). -/
def s8 (b : Byte) : Int := b.toInt

/-- 0 or 1. -/
def bitNat (c : Bool) : Nat := if c then 1 else 0

/-- The byte with bit `n` alone set: `1 << n` (R346). -/
def bitMask (n : Nat) : Byte := 1#8 <<< n

end Sys2Proof.Machine
end

