-- ==== Sys2Proof/Machine/Memory.lean ====
section
/-! DEFINITION. A device's byte array as a list of (index, byte) pairs in ONE canonical form: indexes strictly
rising, no pair equal to what an unlisted index reads as (`fill`). Equal arrays are equal lists. -/

namespace Sys2Proof.Machine

/-- The contents of a byte array. -/
abbrev Cells := List Host.Cell

/-- The byte at index `i`; an unlisted index reads as `fill`. -/
def Cells.read (fill : Byte) (i : Nat) : Cells → Byte
  | [] => fill
  | (j, w) :: rest => if i = j then w else Cells.read fill i rest

/-- Put `v` at index `i`, keeping the canonical form: writing `fill` removes the entry. -/
def Cells.write (fill : Byte) (i : Nat) (v : Byte) : Cells → Cells
  | [] => if v = fill then [] else [(i, v)]
  | (j, w) :: rest =>
    if i < j then (if v = fill then (j, w) :: rest else (i, v) :: (j, w) :: rest)
    else if i = j then (if v = fill then rest else (i, v) :: rest)
    else (j, w) :: Cells.write fill i v rest

/-- Every listed index lies at or above `lo` and below `capacity`, rises strictly, and lists no `fill`. -/
def Cells.wfFrom (fill : Byte) (capacity : Nat) (lo : Nat) : Cells → Bool
  | [] => true
  | (j, w) :: rest => decide (lo ≤ j) && decide (j < capacity) && decide (w ≠ fill) && Cells.wfFrom fill capacity (j + 1) rest

/-- The canonical form of an array of `capacity` bytes. -/
def Memory.wf (fill : Byte) (capacity : Nat) (cells : Cells) : Bool := Cells.wfFrom fill capacity 0 cells

end Sys2Proof.Machine
end

