-- ==== Sys2Proof/Machine/Bus.lean ====
section
/-! DEFINITION. The bus below the core: the address decoder, the devices in subscription order and the arbitration
between them (spec/20_memory.md R78 to R91). These functions know nothing of the core's registers; ticks are counted
in Machine/Ops.lean. -/

namespace Sys2Proof.Machine

/-- One attached device: its configured attributes (R13) and its own state (R90). A RAM or ROM keeps `cells`, the
array of R85 and R86. The state of an I/O device is opaque (R84, R90): `history` lists the transactions it has
serviced and the steps of its own agent (R97), newest first, and `Config.ioRead` of that history is what it answers. -/
structure Device where
  attr : DeviceAttr
  cells : Cells
  history : List IoActivity
  deriving DecidableEq, Repr

/-- `Decode(addr)` of R82: the chip-selects of every range that holds the address. -/
def decodeAddress (ranges : List AddressRange) (addr : Word) : List ChipSelect :=
  (ranges.filter fun r => decide (r.start ≤ addr) && decide (addr ≤ r.stop)).map (·.chip)

/-- `d.enabled and d.mapped_io ∈ ev.decoded` (R80, R81, R87). -/
def Device.selected (d : Device) (decoded : List ChipSelect) : Bool := d.attr.enabled && decoded.contains d.attr.mappedIo

/-- The array index of a bus address, `addr - d.start_address` (R85, R86). An address outside the array (only under a
map that breaks R78 (d), which the spec lets no emulator start with: R508) has none: log entry 7. -/
def Device.index (d : Device) (addr : Word) : Option Nat :=
  if d.attr.startAddress ≤ addr ∧ addr.toNat - d.attr.startAddress.toNat < d.attr.capacity then
    some (addr.toNat - d.attr.startAddress.toNat)
  else none

/-- The datum of `DeviceRead(d, addr)`: an I/O device answers a draw (R84), a RAM or ROM the cell (R85, R86). `data` is
the event's datum so far, which a device that has no such cell leaves alone. -/
def Device.answer (cfg : Config) (addr : Word) (data : Byte) (d : Device) : Byte :=
  if d.attr.mappedIo.isIo then Config.ioRead d.attr.mappedIo d.history addr
  else
    match d.index addr with
    | some i => Cells.read (cfg.fill d.attr.mappedIo) i d.cells
    | none => data

/-- What a serviced read does to the device: an I/O device remembers it (its side effect, R84); a RAM or ROM is
unchanged (R94). -/
def Device.noteRead (addr : Word) (d : Device) : Device :=
  if d.attr.mappedIo.isIo then { d with history := .read addr :: d.history } else d

/-- `DeviceWrite(d, addr, v)`: an I/O device remembers the access, which is all the model says of its state (R84); a
RAM stores the byte (R85). -/
def Device.write (cfg : Config) (addr : Word) (v : Byte) (d : Device) : Device :=
  if d.attr.mappedIo.isIo then { d with history := .write addr v :: d.history }
  else
    match d.index addr with
    | some i => { d with cells := Cells.write (cfg.fill d.attr.mappedIo) i v d.cells }
    | none => d

/-- One step of the device's own asynchronous agent: it changes the device's own state and nothing else (R97). A RAM or
ROM has no agent. -/
def Device.ownStep (chip : ChipSelect) (choice : Nat) (d : Device) : Device :=
  if d.attr.mappedIo.isIo && decide (d.attr.mappedIo = chip) then { d with history := .ownStep choice :: d.history } else d

/-- The device services a Read whose decoded chip-selects are `decoded` (R80, R87). -/
def Device.readsFor (d : Device) (decoded : List ChipSelect) : Bool := d.selected decoded && d.attr.mode.canRead

/-- The datum the device loop of a Read transaction leaves in the event: every servicing device overwrites it in
subscription order (R80, R83). -/
def readData (cfg : Config) (decoded : List ChipSelect) (addr : Word) (data : Byte) : List Device → Byte
  | [] => data
  | d :: rest => readData cfg decoded addr (if d.readsFor decoded then d.answer cfg addr data else data) rest

/-- The devices after the device loop of a Read transaction (R80). -/
def readDevices (decoded : List ChipSelect) (addr : Word) (devices : List Device) : List Device :=
  devices.map fun d => if d.readsFor decoded then d.noteRead addr else d

/-- The device loop of a Write transaction (R81): every selected writable device stores the byte in turn; the first
selected device whose mode lacks Write ends the transaction. -/
def writeDevices (cfg : Config) (decoded : List ChipSelect) (addr : Word) (v : Byte) : List Device → List Device
  | [] => []
  | d :: rest =>
    if d.selected decoded then
      if d.attr.mode.canWrite then d.write cfg addr v :: writeDevices cfg decoded addr v rest
      else d :: rest
    else d :: writeDevices cfg decoded addr v rest

/-- No selected device forbids a write, so the Write transaction raises no `WriteProtect` (R81, R503). -/
def writableBy (decoded : List ChipSelect) (devices : List Device) : Bool :=
  devices.all fun d => !(d.selected decoded) || d.attr.mode.canWrite

/-- What one device would put on the bus if its answer is fixed by the state: a cell, or nothing known for an I/O
device, whose answer is a draw. -/
def Device.peek (cfg : Config) (addr : Word) (data : Option Byte) (d : Device) : Option Byte :=
  if d.attr.mappedIo.isIo then none
  else
    match d.index addr with
    | some i => some (Cells.read (cfg.fill d.attr.mappedIo) i d.cells)
    | none => data

/-- The datum a Read of `addr` would return, without performing it: `none` where the answer is an I/O draw. -/
def peekDevices (cfg : Config) (decoded : List ChipSelect) (addr : Word) (data : Option Byte) : List Device → Option Byte
  | [] => data
  | d :: rest =>
    peekDevices cfg decoded addr (if d.readsFor decoded then d.peek cfg addr data else data) rest

/-- Store a byte in every selected RAM or ROM array whatever its mode: how a program image is placed from outside the
machine (the load of R91), never an instruction's write. -/
def loadDevices (cfg : Config) (decoded : List ChipSelect) (addr : Word) (v : Byte) (devices : List Device) : List Device :=
  devices.map fun d => if d.selected decoded && !d.attr.mappedIo.isIo then d.write cfg addr v else d

/-- The canonical form of one device's array (Memory.wf). -/
def Device.wf (cfg : Config) (d : Device) : Bool := Memory.wf (cfg.fill d.attr.mappedIo) d.attr.capacity d.cells

/-- Two ranges share no address. -/
def rangesDisjoint (r q : AddressRange) : Bool := decide (r.stop < q.start) || decide (q.stop < r.start)

/-- R78 (a), (b), (c): every range is in order, no two ranges overlap or name the same chip-select. -/
def rangesWf : List AddressRange → Bool
  | [] => true
  | r :: rest => decide (r.start ≤ r.stop) && rest.all (fun q => rangesDisjoint r q && decide (r.chip ≠ q.chip)) && rangesWf rest

/-- R78 (d): the device's range is its chip-select's range, and its array holds all of it. -/
def deviceFits (ranges : List AddressRange) (d : Device) : Bool :=
  ranges.any (fun r => decide (r.chip = d.attr.mappedIo ∧ r.start = d.attr.startAddress ∧ r.stop = d.attr.endAddress)) &&
    decide (d.attr.endAddress.toNat - d.attr.startAddress.toNat + 1 ≤ d.attr.capacity)

/-- R78 (d) as the load tests it (R508, code 34; log entry 18): the array holds the device's own range, and every
configured range of its chip-select is that range, so none exceeds the array. -/
def rangeWithinCapacity (ranges : List AddressRange) (d : Device) : Bool :=
  decide (d.attr.endAddress.toNat - d.attr.startAddress.toNat + 1 ≤ d.attr.capacity) &&
    ranges.all fun r => !decide (r.chip = d.attr.mappedIo) ||
      decide (r.start = d.attr.startAddress ∧ r.stop = d.attr.endAddress)

/-- R78 (e): at most one device per chip-select. -/
def chipsDistinct : List Device → Bool
  | [] => true
  | d :: rest => rest.all (fun e => decide (d.attr.mappedIo ≠ e.attr.mappedIo)) && chipsDistinct rest

/-- A well-formed `MEMORY_MAP` (R78). -/
def mapWf (ranges : List AddressRange) (devices : List Device) : Bool :=
  rangesWf ranges && devices.all (deviceFits ranges) && chipsDistinct devices

/-- A blank array of a device with these attributes: RAM filled at construction (R85), no I/O access yet. -/
def Device.blank (attr : DeviceAttr) : Device := ⟨attr, [], []⟩

/-- The devices of map M1 (spec/95_test_vectors.md section 0): RAM 0x0000-0x7FFF, ROM 0x8000-0xFFFF
(DESIGN CHOICE, log entry 3). -/
def standardDevices : List Device :=
  [Device.blank ⟨"RAM", 0x0000, 0x7FFF, true, .ram, .readWrite, 0x8000, false⟩,
   Device.blank ⟨"ROM", 0x8000, 0xFFFF, true, .rom, .read, 0x8000, false⟩]

end Sys2Proof.Machine
end

