-- ==== Sys2Proof/Machine/State.lean ====
section
/-! DEFINITION. The whole state of the machine (spec/10_state.md R55, the bus state of spec/20_memory.md R90, the
host-level state of R54 and the published events of spec/60_exceptions.md R507), the ways a step can stop, and the
state after reset (R58, R560). Plain data. -/

namespace Sys2Proof.Machine

/-- Errors of configuration and load time (R508, codes 32 to 34): "the emulator does not start". Raised by `flash`
and `configure` (Machine/HostPort.lean) only; no step and no instruction ends in one. A *fault* in the spec's sense is
not one of these: it latches `stopped` and is a next state (`FaultReason`). -/
inductive Fault where
  /-- Code 32, by `flash`: the image is larger than the ROM (safe: the spec names this stop). -/
  | romImageTooLarge
  /-- Code 33, by `flash`: the 32K ROM variant takes exactly 32768 bytes (safe: the spec names this stop). -/
  | romImageSizeMismatch
  /-- Code 34, by `configure`: a configured range is not the range of a device that holds it (R78 (d); safe: the spec names
  this stop). -/
  | rangeExceedsCapacity
  deriving DecidableEq, Repr

/-- Why a Step is refused (R505): it performs no transaction and changes no core state, so the machine's state after
it is the state before it. -/
inductive Refusal where
  /-- An instruction that has no meaning in this model yet; no arm of `exec` answers with it (safe). -/
  | notModelled (mnemonic : String)
  /-- Code 16, by `step`: `stopped` is set (R505; safe: the spec names this refusal). -/
  | stepWhileStopped
  /-- Code 17, by `step`: `stp` is set (R505; safe: the spec names this refusal). -/
  | stepWhileStp
  /-- Code 18, by `step`: break-halt or waiting with nothing to service (R505, R506; safe: the spec names it). -/
  | stepWhileHalted
  deriving DecidableEq, Repr

/-- The fault reasons of R501 with the information they record. Raising one sets the `stopped` latch (R500). -/
inductive FaultReason where
  | unknownOpcode (opcode : Byte) (pc0 : Word)
  | notImplemented (opcode : Byte) (pc0 : Word)
  | writeProtect (addr : Word)
  | pcRange (target : Int)
  deriving DecidableEq, Repr

/-- What the core publishes to the host (R507). -/
inductive Event where
  | fault (reason : FaultReason) (pc : Word)
  | refused (reason : Refusal) (pc : Word)
  | breakpoint (pc : Word)
  | configError (error : Fault)
  deriving DecidableEq, Repr

/-- `run_mode` (R54). -/
inductive RunMode where
  | run | stop
  deriving DecidableEq, Repr

/-- Every piece of state the spec gives the machine. `cfg` is configuration, not state (R55): no operation writes it;
it stands here because the interface's step takes the state alone (log entry 1). -/
structure State where
  /-- A (R31). -/
  a : Byte
  /-- X (R32). -/
  x : Byte
  /-- Y (R33). -/
  y : Byte
  /-- S, the 8-bit stack offset; SP is `0x0100 | S` (R34). -/
  s : Byte
  /-- PC (R35). -/
  pc : Word
  /-- ST, written P: N V U B D I Z C from bit 7 down (R37); bit 5 is hardwired to 1 (R43). -/
  p : Byte
  /-- The latched stopped state (R47). -/
  stopped : Bool
  /-- The reason of the latched fault (R47, R501). -/
  faultReason : Option FaultReason
  /-- Set by WAI (R48). -/
  waiting : Bool
  /-- Set by STP (R49). -/
  stp : Bool
  /-- The NMI latch (R51). -/
  nmiPending : Bool
  /-- The IRQ latch (R52). -/
  irqPending : Bool
  /-- The clock-tick counter: one per core bus transaction (R50). -/
  ticks : Nat
  /-- The devices in subscription order with their arrays (R13, R90). -/
  devices : List Device
  /-- The host's breakpoint set, rising, no repeats (R54). -/
  breakpoints : List Word
  /-- The host's cancellation flag (R54). -/
  runMode : RunMode
  /-- The events published so far, oldest first (R507). -/
  events : List Event
  /-- The parameters of R8 to R16. -/
  cfg : Config
  deriving DecidableEq, Repr

/-- The reset value of P: `0x24 | (RESET_REGS.NVZC & 0xC3)` (R560). -/
def resetStatus (r : ResetRegs) : Byte :=
  0x24 ||| (if r.n then 0x80 else 0) ||| (if r.v then 0x40 else 0) ||| (if r.z then 0x02 else 0) ||| (if r.c then 0x01 else 0)

/-- The byte a Read of `addr` returns on this bus. -/
def busByte (cfg : Config) (devices : List Device) (addr : Word) : Byte :=
  readData cfg (decodeAddress cfg.ranges addr) addr cfg.openBusValue devices

/-- The little-endian word at the reset vector of this bus, low byte read first (R560, R73). -/
def resetVector (cfg : Config) (devices : List Device) : Word :=
  wordOf (busByte cfg (readDevices (decodeAddress cfg.ranges 0xFFFC) 0xFFFC devices) 0xFFFD) (busByte cfg devices 0xFFFC)

/-- The machine right after reset: R58 over the default parameters and the platform of log entry 3, with no program
loaded and nothing listed in memory. -/
def State.reset : State where
  a := Config.standard.resetRegs.a
  x := Config.standard.resetRegs.x
  y := Config.standard.resetRegs.y
  s := 0xFF
  pc := resetVector Config.standard standardDevices
  p := resetStatus Config.standard.resetRegs
  stopped := false
  faultReason := none
  waiting := false
  stp := false
  nmiPending := false
  irqPending := false
  ticks := 0
  devices := standardDevices
  breakpoints := []
  runMode := .stop
  events := []
  cfg := Config.standard

end Sys2Proof.Machine
end

