-- ==== Sys2Proof/Machine/Flags.lean ====
section
/-! DEFINITION. The status register P (spec/10_state.md R37 to R45): its flags by bit, every flag computation of the
instruction rules, and the arithmetic and shift results the flags are taken from (spec/41_arithmetic.md,
spec/42_shift_rotate.md). -/

namespace Sys2Proof.Machine

/-- The flags of ST (R37). -/
inductive Flag where
  | c | z | i | d | b | u | v | n
  deriving DecidableEq, Repr

/-- The bit number of a flag (R37). -/
def Flag.bit : Flag → Nat
  | .c => 0
  | .z => 1
  | .i => 2
  | .d => 3
  | .b => 4
  | .u => 5
  | .v => 6
  | .n => 7

/-- The flag's value in the status byte. -/
def getFlag (f : Flag) (p : Byte) : Bool := p.getLsbD f.bit

/-- The status byte with one flag replaced. -/
def setFlag (f : Flag) (on : Bool) (p : Byte) : Byte :=
  if on then p ||| bitMask f.bit else p &&& ~~~(bitMask f.bit)

/-- `SetNZ(v)` (R22): N is bit 7 of the result, Z says that it is zero. -/
def statusNZ (v : Byte) (p : Byte) : Byte := setFlag .z (decide (v = 0)) (setFlag .n (v.getLsbD 7) p)

/-- The status byte PLP and RTI make of the pulled one: bits 4 and 5 discarded, B 0, U 1 (R267, R313). -/
def pulledStatus (v : Byte) : Byte := (v &&& 0xCF) ||| 0x20

/-- The copy PHP and BRK push: bits 4 and 5 set (R263, R430). -/
def pushedByInstruction (p : Byte) : Byte := p ||| 0x30

/-- The copy an IRQ or NMI entry pushes: bit 4 clear, bit 5 set (R530). -/
def pushedByInterrupt (p : Byte) : Byte := (p &&& 0xEF) ||| 0x20

/-- A result byte with the carry and the overflow it gives (the triple `(r, c, v)` of R201, R203, R206). -/
structure AluResult where
  r : Byte
  c : Bool
  v : Bool
  deriving DecidableEq, Repr

/-- `AddBin(a, b, cin)` (R201). -/
def addBin (a b : Byte) (cin : Bool) : AluResult where
  r := BitVec.ofNat 8 (a.toNat + b.toNat + bitNat cin)
  c := decide (a.toNat + b.toNat + bitNat cin > 0xFF)
  v := decide (a.getLsbD 7 = b.getLsbD 7) &&
    decide ((BitVec.ofNat 8 (a.toNat + b.toNat + bitNat cin)).getLsbD 7 ≠ a.getLsbD 7)

/-- The adjusted low-digit sum `al` of `AddDec` (R203). -/
def addDecLow (a b : Byte) (cin : Bool) : Nat :=
  let al := (a &&& 0x0F).toNat + (b &&& 0x0F).toNat + bitNat cin
  if al ≥ 0x0A then (al + 0x06) % 0x10 + 0x10 else al

/-- The adjusted sum `s` of `AddDec` (R203). -/
def addDecSum (a b : Byte) (cin : Bool) : Nat :=
  let sum := (a &&& 0xF0).toNat + (b &&& 0xF0).toNat + addDecLow a b cin
  if sum ≥ 0xA0 then sum + 0x60 else sum

/-- The signed sum `t` of `AddDec`, from which V is taken (R203). -/
def addDecSigned (a b : Byte) (cin : Bool) : Int := s8 (a &&& 0xF0) + s8 (b &&& 0xF0) + addDecLow a b cin

/-- `AddDec(a, b, cin)` (R203). -/
def addDec (a b : Byte) (cin : Bool) : AluResult where
  r := BitVec.ofNat 8 (addDecSum a b cin)
  c := decide (addDecSum a b cin ≥ 0x100)
  v := decide (addDecSigned a b cin < -128) || decide (addDecSigned a b cin > 127)

/-- The low-digit difference `al` of `SubDec`, which may be negative (R206). -/
def subDecLow (a b : Byte) (cin : Bool) : Int :=
  ((a &&& 0x0F).toNat : Int) - (b &&& 0x0F).toNat + bitNat cin - 1

/-- The adjusted difference `s` of `SubDec` (R206). -/
def subDecDiff (a b : Byte) (cin : Bool) : Int :=
  let s : Int := (a.toNat : Int) - b.toNat + bitNat cin - 1
  let s := if s < 0 then s - 0x60 else s
  if subDecLow a b cin < 0 then s - 0x06 else s

/-- `SubDec(a, b, cin)`: C and V exactly as in binary mode, the result adjusted (R206). -/
def subDec (a b : Byte) (cin : Bool) : AluResult where
  r := BitVec.ofInt 8 (subDecDiff a b cin)
  c := (addBin a (~~~b) cin).c
  v := (addBin a (~~~b) cin).v

/-- The status byte after ADC or SBC: C, V, then N and Z of the result (R200, R204). -/
def statusAlu (res : AluResult) (p : Byte) : Byte := statusNZ res.r (setFlag .v res.v (setFlag .c res.c p))

/-- `Compare(reg, m)` on the status byte (R210). -/
def statusCompare (reg m : Byte) (p : Byte) : Byte := statusNZ (reg - m) (setFlag .c (decide (reg.toNat ≥ m.toNat)) p)

/-- The Z flag of BIT, TRB and TSB: `(A & M) == 0` (R343 to R345). -/
def statusBitTest (a m : Byte) (p : Byte) : Byte := setFlag .z (decide (a &&& m = 0)) p

/-- BIT in a memory mode: Z of `A & M`, N and V from bits 7 and 6 of M (R343). -/
def statusBitMemory (a m : Byte) (p : Byte) : Byte :=
  setFlag .v (m.getLsbD 6) (setFlag .n (m.getLsbD 7) (statusBitTest a m p))

/-- A shifted byte with the bit shifted out. -/
structure ShiftResult where
  r : Byte
  c : Bool
  deriving DecidableEq, Repr

/-- ASL (R240). -/
def aslByte (v : Byte) : ShiftResult := ⟨v <<< 1, v.getLsbD 7⟩

/-- LSR (R241). -/
def lsrByte (v : Byte) : ShiftResult := ⟨v >>> 1, v.getLsbD 0⟩

/-- ROL: the prior carry enters bit 0 (R242). -/
def rolByte (v : Byte) (c : Bool) : ShiftResult := ⟨(v <<< 1) ||| (if c then 0x01 else 0x00), v.getLsbD 7⟩

/-- ROR: the prior carry enters bit 7 (R243). -/
def rorByte (v : Byte) (c : Bool) : ShiftResult := ⟨(if c then 0x80 else 0x00) ||| (v >>> 1), v.getLsbD 0⟩

end Sys2Proof.Machine
end

