-- ==== Sys2Proof/Machine/Ops.lean ====
section
/-! DEFINITION. The named operations over the state: register writes, bus transactions, the stack, `SetPC`, raising a
fault, and taking an interrupt or BRK (ONE shared operation) with the return beside it. -/

namespace Sys2Proof.Machine

/-- What one step answers. -/
abbrev StepOutcome := Host.Outcome State Fault Refusal

/-! ## Writing one register -/

def State.withA (v : Byte) (st : State) : State := { st with a := v }
def State.withX (v : Byte) (st : State) : State := { st with x := v }
def State.withY (v : Byte) (st : State) : State := { st with y := v }
def State.withS (v : Byte) (st : State) : State := { st with s := v }
/-- Used by `setPC` alone: every PC write of a rule goes through `SetPC` (R24, R35). -/
def State.withPc (v : Word) (st : State) : State := { st with pc := v }
/-- Every write of P: U is hardwired to 1 (R43). -/
def State.withP (v : Byte) (st : State) : State := { st with p := v ||| 0x20 }
def State.withWaiting (v : Bool) (st : State) : State := { st with waiting := v }
def State.withStp (v : Bool) (st : State) : State := { st with stp := v }
def State.withNmiPending (v : Bool) (st : State) : State := { st with nmiPending := v }
def State.withIrqPending (v : Bool) (st : State) : State := { st with irqPending := v }
def State.withDevices (v : List Device) (st : State) : State := { st with devices := v }
/-- One bus transaction of the core (R50). -/
def State.tick (st : State) : State := { st with ticks := st.ticks + 1 }
/-- Publish an event (R507). -/
def State.publish (e : Event) (st : State) : State := { st with events := st.events ++ [e] }

/-- A flag of P. -/
def State.flag (f : Flag) (st : State) : Bool := getFlag f st.p

/-- Write one flag of P. -/
def State.withFlag (f : Flag) (on : Bool) (st : State) : State := st.withP (setFlag f on st.p)

/-- `SetNZ(v)` (R22). -/
def State.setNZ (v : Byte) (st : State) : State := st.withP (statusNZ v st.p)

/-- The source's 16-bit SP, `0x0100 | S` (R34). -/
def State.spAddr (st : State) : Word := 0x0100 ||| zext st.s

/-! ## Faults -/

/-- The effects of a raised fault that stay: the latch, the reason and the published event, with PC as it stands
(R500, R507). -/
def State.latch (reason : FaultReason) (st : State) : State :=
  { st with stopped := true, faultReason := some reason, events := st.events ++ [.fault reason st.pc] }

/-- An instruction or interrupt entry under way: it goes on with a state, or a fault has ended it at once with what it
had done so far (R21, R500). -/
inductive Flow where
  | go (st : State)
  | raised (reason : FaultReason) (st : State)
  deriving DecidableEq, Repr

/-- Do `next` unless a fault has ended the instruction. -/
def Flow.andThen (f : Flow) (next : State → Flow) : Flow :=
  match f with
  | .go st => next st
  | .raised reason st => .raised reason st

/-- The step's outcome. A raised fault is a NEXT state, the latched one: the spec says what the machine holds after it
(R500), and only Reset leaves it. -/
def Flow.outcome : Flow → StepOutcome
  | .go st => .next st
  | .raised reason st => .next (st.latch reason)

/-! ## The bus -/

/-- The Read transaction of R80 without the tick (R89, R560). -/
def State.busRead (addr : Word) (st : State) : Byte × State :=
  (busByte st.cfg st.devices addr, st.withDevices (readDevices (decodeAddress st.cfg.ranges addr) addr st.devices))

/-- No selected device forbids a write at this address (R81). -/
def State.writable (st : State) (addr : Word) : Bool := writableBy (decodeAddress st.cfg.ranges addr) st.devices

/-- The Write transaction of R81 without the tick (R89): the devices store the byte, and a selected device whose mode
lacks Write raises `WriteProtect`. -/
def State.busWrite (addr : Word) (v : Byte) (st : State) : Flow :=
  if st.writable addr then .go (st.withDevices (writeDevices st.cfg (decodeAddress st.cfg.ranges addr) addr v st.devices))
  else .raised (.writeProtect addr)
    (st.withDevices (writeDevices st.cfg (decodeAddress st.cfg.ranges addr) addr v st.devices))

/-- `MemRead(addr, 1)`: one ticked Read transaction (R19, R50). -/
def State.memRead (addr : Word) (st : State) : Byte × State := st.tick.busRead addr

/-- `MemWrite(addr, 1, v)`: one ticked Write transaction; the tick of a faulting one counts (R19, R503). -/
def State.memWrite (addr : Word) (v : Byte) (st : State) : Flow := st.tick.busWrite addr v

/-- `MemRead(addr, 2)`: low byte first, little-endian, the address wrapping modulo 2^16 (R19, R75, R92). -/
def State.memRead16 (addr : Word) (st : State) : Word × State :=
  let lo := st.memRead addr
  let hi := lo.2.memRead (addr + 1)
  (wordOf hi.1 lo.1, hi.2)

/-- `ZpRead16(z)`: the pointer's high byte wraps within the zero page (R19). -/
def State.zpRead16 (z : Byte) (st : State) : Word × State :=
  let lo := st.memRead (zext z)
  let hi := lo.2.memRead (zext (z + 1))
  (wordOf hi.1 lo.1, hi.2)

/-- What a Read of `addr` would return, without performing it; `none` where an I/O device would answer (R84). -/
def State.peek (st : State) (addr : Word) : Option Byte :=
  peekDevices st.cfg (decodeAddress st.cfg.ranges addr) addr (some st.cfg.openBusValue) st.devices

/-! ## The stack -/

/-- `Push(v)` (R20): a push that faults leaves S. -/
def State.push (v : Byte) (st : State) : Flow :=
  (st.memWrite st.spAddr v).andThen fun st => .go (st.withS (st.s - 1))

/-- `Pull()`: S is incremented first (R20). -/
def State.pull (st : State) : Byte × State :=
  let up := st.withS (st.s + 1)
  up.memRead up.spAddr

/-- A 16-bit push, high byte first (R75, R77). -/
def State.pushWord (w : Word) (st : State) : Flow := (st.push (hiByte w)).andThen fun st => st.push (loByte w)

/-- Two pulls, low byte first (R312, R313). -/
def State.pullWord (st : State) : Word × State :=
  let lo := st.pull
  let hi := lo.2.pull
  (wordOf hi.1 lo.1, hi.2)

/-! ## The program counter -/

/-- `SetPC(t)` (R24). -/
def State.setPC (t : Int) (st : State) : Flow :=
  match st.cfg.pcOverflow with
  | .wrap => .go (st.withPc (BitVec.ofInt 16 t))
  | .clamp =>
    if t > 0xFFFF then .go (st.withPc 0xFFFF)
    else if 0 ≤ t then .go (st.withPc (BitVec.ofInt 16 t))
    else .raised (.pcRange t) st

/-- `Next: sequential`: `SetPC(pc0 + len)`; PC still holds pc0 (R25, R36). -/
def State.sequential (len : Nat) (st : State) : Flow := st.setPC ((st.pc.toNat : Int) + len)

/-! ## Taking an interrupt or BRK, and the return -/

/-- The three ways in that save PC and P on the stack (R430, R530). -/
inductive Entry where
  | brk | irq | nmi
  deriving DecidableEq, Repr

/-- The fixed vector of an entry (R73, R531). -/
def Entry.vector : Entry → Word
  | .brk => 0xFFFE
  | .irq => 0xFFFE
  | .nmi => 0xFFFA

/-- The return address pushed: BRK pushes pc0 plus `BRK_RETURN_OFFSET` modulo 2^16, an interrupt the PC (R430, R530). -/
def Entry.returnAddress (e : Entry) (st : State) : Word :=
  match e with
  | .brk => st.pc + st.cfg.brkReturnOffset.value
  | .irq => st.pc
  | .nmi => st.pc

/-- BRK sets B before it pushes P (R430); an interrupt does not (R530). -/
def Entry.markBreak (e : Entry) (st : State) : State :=
  match e with
  | .brk => st.withFlag .b true
  | .irq => st
  | .nmi => st

/-- The pushed copy of P (R430, R530). -/
def Entry.statusCopy (e : Entry) (p : Byte) : Byte :=
  match e with
  | .brk => pushedByInstruction p
  | .irq => pushedByInterrupt p
  | .nmi => pushedByInterrupt p

/-- I set and D cleared; an interrupt also clears B, which leaves break-halt, and `waiting` (R430, R530). -/
def Entry.mask (e : Entry) (st : State) : State :=
  match e with
  | .brk => (st.withFlag .i true).withFlag .d false
  | .irq => (((st.withFlag .i true).withFlag .d false).withFlag .b false).withWaiting false
  | .nmi => (((st.withFlag .i true).withFlag .d false).withFlag .b false).withWaiting false

/-- `SetPC(MemRead(vector, 2))`. -/
def State.jumpThrough (vector : Word) (st : State) : Flow :=
  let target := st.memRead16 vector
  target.2.setPC (target.1.toNat : Int)

/-- Taking an exception: push PC high then low, push P, mask, jump through the vector (R430, R530). -/
def State.takeException (e : Entry) (st : State) : Flow :=
  (st.pushWord (e.returnAddress st)).andThen fun st =>
    ((e.markBreak st).push (e.statusCopy (e.markBreak st).p)).andThen fun st =>
      (e.mask st).jumpThrough e.vector

/-- The return from an exception: pull P, then PC low and high, with no +1 (R313, R532). -/
def State.returnFromException (st : State) : Flow :=
  let status := st.pull
  let target := (status.2.withP (pulledStatus status.1)).pullWord
  target.2.setPC (target.1.toNat : Int)

/-! ## The numeric codes of R501, R505 and R508 -/

def FaultReason.code : FaultReason → Nat
  | .unknownOpcode _ _ => 1
  | .notImplemented _ _ => 2
  | .writeProtect _ => 3
  | .pcRange _ => 4

/-- The code of a refused Step (R505); the model's own refusal has none. -/
def Refusal.code : Refusal → Option Nat
  | .stepWhileStopped => some 16
  | .stepWhileStp => some 17
  | .stepWhileHalted => some 18
  | _ => none

def Fault.code : Fault → Nat
  | .romImageTooLarge => 32
  | .romImageSizeMismatch => 33
  | .rangeExceedsCapacity => 34

end Sys2Proof.Machine
end

