-- ==== Sys2Proof/Syntax.lean ====
section
/-! DEFINITION. The instructions (spec/30_encoding.md R121, R130, R131) and the vocabulary of the dispatch table: mnemonics,
addressing modes, operand forms and operations (R126, spec/40_addressing_modes.md R150 to R168). -/

namespace Sys2Proof

/-- The 70 mnemonics, the bit number of BBRn, BBSn, RMBn and SMBn apart (R124, R132). -/
inductive Mnemonic where
  | adc | and | asl | bcc | bcs | beq | bit | bmi | bne | bpl | bra | brk | bvc | bvs | clc | cld | cli | clv | cmp
  | cpx | cpy | dec | dex | dey | eor | inc | inx | iny | jmp | jsr | lda | ldx | ldy | lsr | nop | ora | pha | php
  | phx | phy | pla | plp | plx | ply | rol | ror | rti | rts | sbc | sec | sed | sei | sta | stp | stx | sty | stz
  | tax | tay | trb | tsb | tsx | txa | txs | tya | wai
  | bbr (n : Fin 8)
  | bbs (n : Fin 8)
  | rmb (n : Fin 8)
  | smb (n : Fin 8)
  deriving DecidableEq, Repr

/-- The addressing modes: the 16 of R150 and the combined form zp,r of R167. -/
inductive Mode where
  | implied | accumulator | stack | immediate | relative | zp | zpX | zpY | zpIndX | zpIndY | zpInd | abs | absX | absY
  | absInd | absIndX | zpRel
  deriving DecidableEq, Repr

/-- An operand in memory: the nine modes that give an effective address for data (R156 to R164). -/
inductive MemOperand where
  | zp (z : Byte)
  | zpX (z : Byte)
  | zpY (z : Byte)
  | zpIndX (z : Byte)
  | zpIndY (z : Byte)
  | zpInd (z : Byte)
  | abs (a : Word)
  | absX (a : Word)
  | absY (a : Word)
  deriving DecidableEq, Repr

/-- The operand of a read-class instruction: an immediate byte or a byte of memory (R168). -/
inductive Source where
  | imm (m : Byte)
  | mem (o : MemOperand)
  deriving DecidableEq, Repr

/-- The read class of R168. -/
inductive ReadOp where
  | lda | ldx | ldy | adc | sbc | and | ora | eor | cmp | cpx | cpy | bit
  deriving DecidableEq, Repr

/-- The write class of R168. -/
inductive WriteOp where
  | sta | stx | sty | stz
  deriving DecidableEq, Repr

/-- The read-modify-write class of R168. -/
inductive ModifyOp where
  | asl | lsr | rol | ror | inc | dec | trb | tsb
  | rmb (n : Fin 8)
  | smb (n : Fin 8)
  deriving DecidableEq, Repr

/-- The accumulator class of R168. -/
inductive AccOp where
  | asl | lsr | rol | ror | inc | dec
  deriving DecidableEq, Repr

/-- Register transfers and register increments and decrements (R215 to R218, R407 to R412). -/
inductive RegisterOp where
  | tax | tay | txa | tya | tsx | txs | inx | iny | dex | dey
  deriving DecidableEq, Repr

/-- The flag instructions (R450 to R456). -/
inductive FlagOp where
  | clc | sec | cli | sei | cld | sed | clv
  deriving DecidableEq, Repr

/-- The pushes (R260 to R263). -/
inductive PushOp where
  | pha | phx | phy | php
  deriving DecidableEq, Repr

/-- The pulls (R264 to R267). -/
inductive PullOp where
  | pla | plx | ply | plp
  deriving DecidableEq, Repr

/-- The relative branches (R281 to R289). -/
inductive BranchOp where
  | bpl | bmi | bvc | bvs | bcc | bcs | bne | beq | bra
  deriving DecidableEq, Repr

/-- An instruction as its class and its operand, over all the opcode rows of a mnemonic at once (R126, R168). -/
inductive Operation where
  | read (op : ReadOp) (src : Source)
  | write (op : WriteOp) (dst : MemOperand)
  | modify (op : ModifyOp) (dst : MemOperand)
  | accumulator (op : AccOp)
  | register (op : RegisterOp)
  | flag (op : FlagOp)
  | push (op : PushOp)
  | pull (op : PullOp)
  | branch (op : BranchOp) (d : Byte)
  | branchBit (n : Fin 8) (want : Bool) (z d : Byte)
  | jmp (a : Word)
  | jmpInd (a : Word)
  | jmpIndX (a : Word)
  | jsr (a : Word)
  | rts
  | rti
  | brk (sig : Byte)
  | wai
  | stp
  | nop
  deriving DecidableEq, Repr

/-- One constructor per row of spec/opcode_table.json, in the table's order. The operands are the assembled operand
bytes of R123: `m` an immediate byte, `z` a zero-page byte, `d` a displacement byte, `a` an absolute address, `sig` the
signature byte of BRK. The suffix names the addressing mode of R131. -/
inductive Instr where
  | brk (sig : Byte)
  | oraZpIndX (z : Byte)
  | tsbZp (z : Byte)
  | oraZp (z : Byte)
  | aslZp (z : Byte)
  | rmb0 (z : Byte)
  | php
  | oraImm (m : Byte)
  | aslAcc
  | tsbAbs (a : Word)
  | oraAbs (a : Word)
  | aslAbs (a : Word)
  | bbr0 (z : Byte) (d : Byte)
  | bpl (d : Byte)
  | oraZpIndY (z : Byte)
  | oraZpInd (z : Byte)
  | trbZp (z : Byte)
  | oraZpX (z : Byte)
  | aslZpX (z : Byte)
  | rmb1 (z : Byte)
  | clc
  | oraAbsY (a : Word)
  | incAcc
  | trbAbs (a : Word)
  | oraAbsX (a : Word)
  | aslAbsX (a : Word)
  | bbr1 (z : Byte) (d : Byte)
  | jsr (a : Word)
  | andZpIndX (z : Byte)
  | bitZp (z : Byte)
  | andZp (z : Byte)
  | rolZp (z : Byte)
  | rmb2 (z : Byte)
  | plp
  | andImm (m : Byte)
  | rolAcc
  | bitAbs (a : Word)
  | andAbs (a : Word)
  | rolAbs (a : Word)
  | bbr2 (z : Byte) (d : Byte)
  | bmi (d : Byte)
  | andZpIndY (z : Byte)
  | andZpInd (z : Byte)
  | bitZpX (z : Byte)
  | andZpX (z : Byte)
  | rolZpX (z : Byte)
  | rmb3 (z : Byte)
  | sec
  | andAbsY (a : Word)
  | decAcc
  | bitAbsX (a : Word)
  | andAbsX (a : Word)
  | rolAbsX (a : Word)
  | bbr3 (z : Byte) (d : Byte)
  | rti
  | eorZpIndX (z : Byte)
  | eorZp (z : Byte)
  | lsrZp (z : Byte)
  | rmb4 (z : Byte)
  | pha
  | eorImm (m : Byte)
  | lsrAcc
  | jmpAbs (a : Word)
  | eorAbs (a : Word)
  | lsrAbs (a : Word)
  | bbr4 (z : Byte) (d : Byte)
  | bvc (d : Byte)
  | eorZpIndY (z : Byte)
  | eorZpInd (z : Byte)
  | eorZpX (z : Byte)
  | lsrZpX (z : Byte)
  | rmb5 (z : Byte)
  | cli
  | eorAbsY (a : Word)
  | phy
  | eorAbsX (a : Word)
  | lsrAbsX (a : Word)
  | bbr5 (z : Byte) (d : Byte)
  | rts
  | adcZpIndX (z : Byte)
  | stzZp (z : Byte)
  | adcZp (z : Byte)
  | rorZp (z : Byte)
  | rmb6 (z : Byte)
  | pla
  | adcImm (m : Byte)
  | rorAcc
  | jmpAbsInd (a : Word)
  | adcAbs (a : Word)
  | rorAbs (a : Word)
  | bbr6 (z : Byte) (d : Byte)
  | bvs (d : Byte)
  | adcZpIndY (z : Byte)
  | adcZpInd (z : Byte)
  | stzZpX (z : Byte)
  | adcZpX (z : Byte)
  | rorZpX (z : Byte)
  | rmb7 (z : Byte)
  | sei
  | adcAbsY (a : Word)
  | ply
  | jmpAbsIndX (a : Word)
  | adcAbsX (a : Word)
  | rorAbsX (a : Word)
  | bbr7 (z : Byte) (d : Byte)
  | bra (d : Byte)
  | staZpIndX (z : Byte)
  | styZp (z : Byte)
  | staZp (z : Byte)
  | stxZp (z : Byte)
  | smb0 (z : Byte)
  | dey
  | bitImm (m : Byte)
  | txa
  | styAbs (a : Word)
  | staAbs (a : Word)
  | stxAbs (a : Word)
  | bbs0 (z : Byte) (d : Byte)
  | bcc (d : Byte)
  | staZpIndY (z : Byte)
  | staZpInd (z : Byte)
  | styZpX (z : Byte)
  | staZpX (z : Byte)
  | stxZpY (z : Byte)
  | smb1 (z : Byte)
  | tya
  | staAbsY (a : Word)
  | txs
  | stzAbs (a : Word)
  | staAbsX (a : Word)
  | stzAbsX (a : Word)
  | bbs1 (z : Byte) (d : Byte)
  | ldyImm (m : Byte)
  | ldaZpIndX (z : Byte)
  | ldxImm (m : Byte)
  | ldyZp (z : Byte)
  | ldaZp (z : Byte)
  | ldxZp (z : Byte)
  | smb2 (z : Byte)
  | tay
  | ldaImm (m : Byte)
  | tax
  | ldyAbs (a : Word)
  | ldaAbs (a : Word)
  | ldxAbs (a : Word)
  | bbs2 (z : Byte) (d : Byte)
  | bcs (d : Byte)
  | ldaZpIndY (z : Byte)
  | ldaZpInd (z : Byte)
  | ldyZpX (z : Byte)
  | ldaZpX (z : Byte)
  | ldxZpY (z : Byte)
  | smb3 (z : Byte)
  | clv
  | ldaAbsY (a : Word)
  | tsx
  | ldyAbsX (a : Word)
  | ldaAbsX (a : Word)
  | ldxAbsY (a : Word)
  | bbs3 (z : Byte) (d : Byte)
  | cpyImm (m : Byte)
  | cmpZpIndX (z : Byte)
  | cpyZp (z : Byte)
  | cmpZp (z : Byte)
  | decZp (z : Byte)
  | smb4 (z : Byte)
  | iny
  | cmpImm (m : Byte)
  | dex
  | wai
  | cpyAbs (a : Word)
  | cmpAbs (a : Word)
  | decAbs (a : Word)
  | bbs4 (z : Byte) (d : Byte)
  | bne (d : Byte)
  | cmpZpIndY (z : Byte)
  | cmpZpInd (z : Byte)
  | cmpZpX (z : Byte)
  | decZpX (z : Byte)
  | smb5 (z : Byte)
  | cld
  | cmpAbsY (a : Word)
  | phx
  | stp
  | cmpAbsX (a : Word)
  | decAbsX (a : Word)
  | bbs5 (z : Byte) (d : Byte)
  | cpxImm (m : Byte)
  | sbcZpIndX (z : Byte)
  | cpxZp (z : Byte)
  | sbcZp (z : Byte)
  | incZp (z : Byte)
  | smb6 (z : Byte)
  | inx
  | sbcImm (m : Byte)
  | nop
  | cpxAbs (a : Word)
  | sbcAbs (a : Word)
  | incAbs (a : Word)
  | bbs6 (z : Byte) (d : Byte)
  | beq (d : Byte)
  | sbcZpIndY (z : Byte)
  | sbcZpInd (z : Byte)
  | sbcZpX (z : Byte)
  | incZpX (z : Byte)
  | smb7 (z : Byte)
  | sed
  | sbcAbsY (a : Word)
  | plx
  | sbcAbsX (a : Word)
  | incAbsX (a : Word)
  | bbs7 (z : Byte) (d : Byte)
  deriving DecidableEq, Repr

end Sys2Proof
end

