-- ==== Sys2Proof/Machine/Operands.lean ====
section
/-! DEFINITION. The addressing-mode resolver (spec/40_addressing_modes.md R150 to R168): every operand form, its
effective address, the transactions it adds, and how a read-class instruction takes its operand. -/

namespace Sys2Proof

/-- The instruction length of a memory operand: F2 for the zero-page modes, F3 for the absolute ones (R127). -/
def MemOperand.length : MemOperand → Nat
  | .zp _ => 2
  | .zpX _ => 2
  | .zpY _ => 2
  | .zpIndX _ => 2
  | .zpIndY _ => 2
  | .zpInd _ => 2
  | .abs _ => 3
  | .absX _ => 3
  | .absY _ => 3

/-- The instruction length of a read-class operand (R127). -/
def Source.length : Source → Nat
  | .imm _ => 2
  | .mem o => o.length

end Sys2Proof

namespace Sys2Proof.Machine

/-- The effective address of a memory operand and the state after its pointer reads (R156 to R164): zero-page sums are
modulo 2^8, absolute sums modulo 2^16. -/
def effectiveAddress (o : MemOperand) (st : State) : Word × State :=
  match o with
  | .zp z => (zext z, st)
  | .zpX z => (zext (z + st.x), st)
  | .zpY z => (zext (z + st.y), st)
  | .zpIndX z => st.zpRead16 (z + st.x)
  | .zpIndY z => ((st.zpRead16 z).1 + zext st.y, (st.zpRead16 z).2)
  | .zpInd z => st.zpRead16 z
  | .abs a => (a, st)
  | .absX a => (a + zext st.x, st)
  | .absY a => (a + zext st.y, st)

/-- `M <- operand` of the read class (R168): the immediate byte, or one Read at the effective address. -/
def readSource (src : Source) (st : State) : Byte × State :=
  match src with
  | .imm m => (m, st)
  | .mem o => (effectiveAddress o st).2.memRead (effectiveAddress o st).1

/-- `M <- MemRead(EA, 1)` of the read-modify-write class, with EA kept for the Write that follows (R168). -/
structure Target where
  ea : Word
  m : Byte
  st : State

/-- The Read half of a read-modify-write instruction (R168). -/
def readTarget (dst : MemOperand) (st : State) : Target :=
  let at_ := effectiveAddress dst st
  ⟨at_.1, (at_.2.memRead at_.1).1, (at_.2.memRead at_.1).2⟩

/-- The write class (R168): one Write at the effective address and no read of it; then sequential. -/
def storeAt (dst : MemOperand) (v : Byte) (st : State) : Flow :=
  ((effectiveAddress dst st).2.memWrite (effectiveAddress dst st).1 v).andThen fun st => st.sequential dst.length

/-- The operand of JMP (a): the word at `a` (R165). -/
def indirectTarget (a : Word) (st : State) : Word × State := st.memRead16 a

/-- The operand of JMP (a,X): the word at `(a + X) mod 2^16` (R166). -/
def indexedIndirectTarget (a : Word) (st : State) : Word × State := st.memRead16 (a + zext st.x)

end Sys2Proof.Machine
end

