-- ==== Sys2Proof/Machine/Arithmetic.lean ====
section
/-! DEFINITION. ADC, SBC, compares, increments and decrements (spec/41_arithmetic.md R200 to R219). The sums
themselves are in Machine/Flags.lean. -/

namespace Sys2Proof.Machine

/-- The result of ADC and SBC put in A and P (R200, R204). -/
def State.withAlu (res : AluResult) (st : State) : State := (st.withA res.r).withP (statusAlu res st.p)

/-- ADC (R200). The operand is read first, so a NotImplemented fault comes after the operand read (R502). -/
def adc (opcode : Byte) (src : Source) (st : State) : Flow :=
  let m := readSource src st
  if m.2.flag .d then
    match m.2.cfg.decimalMode with
    | .fault => .raised (.notImplemented opcode m.2.pc) m.2
    | .bcd65c02 => (m.2.withAlu (addDec m.2.a m.1 (m.2.flag .c))).sequential src.length
  else (m.2.withAlu (addBin m.2.a m.1 (m.2.flag .c))).sequential src.length

/-- SBC: in binary mode the complemented operand is added (R204). -/
def sbc (opcode : Byte) (src : Source) (st : State) : Flow :=
  let m := readSource src st
  if m.2.flag .d then
    match m.2.cfg.decimalMode with
    | .fault => .raised (.notImplemented opcode m.2.pc) m.2
    | .bcd65c02 => (m.2.withAlu (subDec m.2.a m.1 (m.2.flag .c))).sequential src.length
  else (m.2.withAlu (addBin m.2.a (~~~m.1) (m.2.flag .c))).sequential src.length

/-- `Compare(reg, m)` (R210). -/
def State.compare (reg m : Byte) (st : State) : State := st.withP (statusCompare reg m st.p)

/-- CMP (R207). -/
def cmp (src : Source) (st : State) : Flow :=
  let m := readSource src st
  (m.2.compare m.2.a m.1).sequential src.length

/-- CPX (R208). -/
def cpx (src : Source) (st : State) : Flow :=
  let m := readSource src st
  (m.2.compare m.2.x m.1).sequential src.length

/-- CPY compares Y (R209). -/
def cpy (src : Source) (st : State) : Flow :=
  let m := readSource src st
  (m.2.compare m.2.y m.1).sequential src.length

/-- INC of memory: N and Z from the memory result, after the Write (R211). -/
def incMemory (dst : MemOperand) (st : State) : Flow :=
  let t := readTarget dst st
  (t.st.memWrite t.ea (t.m + 1)).andThen fun st => (st.setNZ (t.m + 1)).sequential dst.length

/-- DEC of memory (R213). -/
def decMemory (dst : MemOperand) (st : State) : Flow :=
  let t := readTarget dst st
  (t.st.memWrite t.ea (t.m - 1)).andThen fun st => (st.setNZ (t.m - 1)).sequential dst.length

/-- INC A (R212). -/
def incA (st : State) : Flow := ((st.withA (st.a + 1)).setNZ (st.a + 1)).sequential 1

/-- DEC A (R214). -/
def decA (st : State) : Flow := ((st.withA (st.a - 1)).setNZ (st.a - 1)).sequential 1

/-- INX (R215). -/
def inx (st : State) : Flow := ((st.withX (st.x + 1)).setNZ (st.x + 1)).sequential 1

/-- INY (R216). -/
def iny (st : State) : Flow := ((st.withY (st.y + 1)).setNZ (st.y + 1)).sequential 1

/-- DEX (R217). -/
def dex (st : State) : Flow := ((st.withX (st.x - 1)).setNZ (st.x - 1)).sequential 1

/-- DEY (R218). -/
def dey (st : State) : Flow := ((st.withY (st.y - 1)).setNZ (st.y - 1)).sequential 1

/-! ## The meanings, one per row of the opcode table -/

/-- INC A, opcode 0x1A (R212). -/
def execIncAcc (s : State) : StepOutcome := (incA s).outcome

/-- DEC A, opcode 0x3A (R214). -/
def execDecAcc (s : State) : StepOutcome := (decA s).outcome

/-- ADC (zp,X), opcode 0x61 (R200). -/
def execAdcZpIndX (z : Byte) (s : State) : StepOutcome := (adc 0x61 (.mem (.zpIndX z)) s).outcome

/-- ADC zp, opcode 0x65 (R200). -/
def execAdcZp (z : Byte) (s : State) : StepOutcome := (adc 0x65 (.mem (.zp z)) s).outcome

/-- ADC #, opcode 0x69 (R200). -/
def execAdcImm (m : Byte) (s : State) : StepOutcome := (adc 0x69 (.imm m) s).outcome

/-- ADC a, opcode 0x6D (R200). -/
def execAdcAbs (a : Word) (s : State) : StepOutcome := (adc 0x6D (.mem (.abs a)) s).outcome

/-- ADC (zp),Y, opcode 0x71 (R200). -/
def execAdcZpIndY (z : Byte) (s : State) : StepOutcome := (adc 0x71 (.mem (.zpIndY z)) s).outcome

/-- ADC (zp), opcode 0x72 (R200). -/
def execAdcZpInd (z : Byte) (s : State) : StepOutcome := (adc 0x72 (.mem (.zpInd z)) s).outcome

/-- ADC zp,X, opcode 0x75 (R200). -/
def execAdcZpX (z : Byte) (s : State) : StepOutcome := (adc 0x75 (.mem (.zpX z)) s).outcome

/-- ADC a,Y, opcode 0x79 (R200). -/
def execAdcAbsY (a : Word) (s : State) : StepOutcome := (adc 0x79 (.mem (.absY a)) s).outcome

/-- ADC a,X, opcode 0x7D (R200). -/
def execAdcAbsX (a : Word) (s : State) : StepOutcome := (adc 0x7D (.mem (.absX a)) s).outcome

/-- DEY, opcode 0x88 (R218). -/
def execDey (s : State) : StepOutcome := (dey s).outcome

/-- CPY #, opcode 0xC0 (R209). -/
def execCpyImm (m : Byte) (s : State) : StepOutcome := (cpy (.imm m) s).outcome

/-- CMP (zp,X), opcode 0xC1 (R207). -/
def execCmpZpIndX (z : Byte) (s : State) : StepOutcome := (cmp (.mem (.zpIndX z)) s).outcome

/-- CPY zp, opcode 0xC4 (R209). -/
def execCpyZp (z : Byte) (s : State) : StepOutcome := (cpy (.mem (.zp z)) s).outcome

/-- CMP zp, opcode 0xC5 (R207). -/
def execCmpZp (z : Byte) (s : State) : StepOutcome := (cmp (.mem (.zp z)) s).outcome

/-- DEC zp, opcode 0xC6 (R213). -/
def execDecZp (z : Byte) (s : State) : StepOutcome := (decMemory (.zp z) s).outcome

/-- INY, opcode 0xC8 (R216). -/
def execIny (s : State) : StepOutcome := (iny s).outcome

/-- CMP #, opcode 0xC9 (R207). -/
def execCmpImm (m : Byte) (s : State) : StepOutcome := (cmp (.imm m) s).outcome

/-- DEX, opcode 0xCA (R217). -/
def execDex (s : State) : StepOutcome := (dex s).outcome

/-- CPY a, opcode 0xCC (R209). -/
def execCpyAbs (a : Word) (s : State) : StepOutcome := (cpy (.mem (.abs a)) s).outcome

/-- CMP a, opcode 0xCD (R207). -/
def execCmpAbs (a : Word) (s : State) : StepOutcome := (cmp (.mem (.abs a)) s).outcome

/-- DEC a, opcode 0xCE (R213). -/
def execDecAbs (a : Word) (s : State) : StepOutcome := (decMemory (.abs a) s).outcome

/-- CMP (zp),Y, opcode 0xD1 (R207). -/
def execCmpZpIndY (z : Byte) (s : State) : StepOutcome := (cmp (.mem (.zpIndY z)) s).outcome

/-- CMP (zp), opcode 0xD2 (R207). -/
def execCmpZpInd (z : Byte) (s : State) : StepOutcome := (cmp (.mem (.zpInd z)) s).outcome

/-- CMP zp,X, opcode 0xD5 (R207). -/
def execCmpZpX (z : Byte) (s : State) : StepOutcome := (cmp (.mem (.zpX z)) s).outcome

/-- DEC zp,X, opcode 0xD6 (R213). -/
def execDecZpX (z : Byte) (s : State) : StepOutcome := (decMemory (.zpX z) s).outcome

/-- CMP a,Y, opcode 0xD9 (R207). -/
def execCmpAbsY (a : Word) (s : State) : StepOutcome := (cmp (.mem (.absY a)) s).outcome

/-- CMP a,X, opcode 0xDD (R207). -/
def execCmpAbsX (a : Word) (s : State) : StepOutcome := (cmp (.mem (.absX a)) s).outcome

/-- DEC a,X, opcode 0xDE (R213). -/
def execDecAbsX (a : Word) (s : State) : StepOutcome := (decMemory (.absX a) s).outcome

/-- CPX #, opcode 0xE0 (R208). -/
def execCpxImm (m : Byte) (s : State) : StepOutcome := (cpx (.imm m) s).outcome

/-- SBC (zp,X), opcode 0xE1 (R204). -/
def execSbcZpIndX (z : Byte) (s : State) : StepOutcome := (sbc 0xE1 (.mem (.zpIndX z)) s).outcome

/-- CPX zp, opcode 0xE4 (R208). -/
def execCpxZp (z : Byte) (s : State) : StepOutcome := (cpx (.mem (.zp z)) s).outcome

/-- SBC zp, opcode 0xE5 (R204). -/
def execSbcZp (z : Byte) (s : State) : StepOutcome := (sbc 0xE5 (.mem (.zp z)) s).outcome

/-- INC zp, opcode 0xE6 (R211). -/
def execIncZp (z : Byte) (s : State) : StepOutcome := (incMemory (.zp z) s).outcome

/-- INX, opcode 0xE8 (R215). -/
def execInx (s : State) : StepOutcome := (inx s).outcome

/-- SBC #, opcode 0xE9 (R204). -/
def execSbcImm (m : Byte) (s : State) : StepOutcome := (sbc 0xE9 (.imm m) s).outcome

/-- CPX a, opcode 0xEC (R208). -/
def execCpxAbs (a : Word) (s : State) : StepOutcome := (cpx (.mem (.abs a)) s).outcome

/-- SBC a, opcode 0xED (R204). -/
def execSbcAbs (a : Word) (s : State) : StepOutcome := (sbc 0xED (.mem (.abs a)) s).outcome

/-- INC a, opcode 0xEE (R211). -/
def execIncAbs (a : Word) (s : State) : StepOutcome := (incMemory (.abs a) s).outcome

/-- SBC (zp),Y, opcode 0xF1 (R204). -/
def execSbcZpIndY (z : Byte) (s : State) : StepOutcome := (sbc 0xF1 (.mem (.zpIndY z)) s).outcome

/-- SBC (zp), opcode 0xF2 (R204). -/
def execSbcZpInd (z : Byte) (s : State) : StepOutcome := (sbc 0xF2 (.mem (.zpInd z)) s).outcome

/-- SBC zp,X, opcode 0xF5 (R204). -/
def execSbcZpX (z : Byte) (s : State) : StepOutcome := (sbc 0xF5 (.mem (.zpX z)) s).outcome

/-- INC zp,X, opcode 0xF6 (R211). -/
def execIncZpX (z : Byte) (s : State) : StepOutcome := (incMemory (.zpX z) s).outcome

/-- SBC a,Y, opcode 0xF9 (R204). -/
def execSbcAbsY (a : Word) (s : State) : StepOutcome := (sbc 0xF9 (.mem (.absY a)) s).outcome

/-- SBC a,X, opcode 0xFD (R204). -/
def execSbcAbsX (a : Word) (s : State) : StepOutcome := (sbc 0xFD (.mem (.absX a)) s).outcome

/-- INC a,X, opcode 0xFE (R211). -/
def execIncAbsX (a : Word) (s : State) : StepOutcome := (incMemory (.absX a) s).outcome

end Sys2Proof.Machine
end

