-- ==== Sys2Proof/Machine/BitLogic.lean ====
section
/-! DEFINITION. Logic and bit instructions (spec/45_bit_logic.md R340 to R364). -/

namespace Sys2Proof.Machine

/-- AND (R340). -/
def andA (src : Source) (st : State) : Flow :=
  let m := readSource src st
  ((m.2.withA (m.2.a &&& m.1)).setNZ (m.2.a &&& m.1)).sequential src.length

/-- ORA: inclusive or (R341). -/
def ora (src : Source) (st : State) : Flow :=
  let m := readSource src st
  ((m.2.withA (m.2.a ||| m.1)).setNZ (m.2.a ||| m.1)).sequential src.length

/-- EOR (R342). -/
def eor (src : Source) (st : State) : Flow :=
  let m := readSource src st
  ((m.2.withA (m.2.a ^^^ m.1)).setNZ (m.2.a ^^^ m.1)).sequential src.length

/-- BIT immediate writes only Z (R343). -/
def bitImmediate (m : Byte) (st : State) : Flow := (st.withP (statusBitTest st.a m st.p)).sequential 2

/-- BIT in a memory mode writes Z, N and V (R343). -/
def bitMemory (o : MemOperand) (st : State) : Flow :=
  let m := readSource (.mem o) st
  (m.2.withP (statusBitMemory m.2.a m.1 m.2.p)).sequential o.length

/-- TRB: Z tests the byte before the reset, and is written before the Write (R344). -/
def trb (dst : MemOperand) (st : State) : Flow :=
  let t := readTarget dst st
  ((t.st.withP (statusBitTest t.st.a t.m t.st.p)).memWrite t.ea (t.m &&& ~~~t.st.a)).andThen fun st =>
    st.sequential dst.length

/-- TSB: Z tests the byte before the set, and is written before the Write (R345). -/
def tsb (dst : MemOperand) (st : State) : Flow :=
  let t := readTarget dst st
  ((t.st.withP (statusBitTest t.st.a t.m t.st.p)).memWrite t.ea (t.m ||| t.st.a)).andThen fun st =>
    st.sequential dst.length

/-- The byte with bit `n` reset or set (R346). -/
def modifiedByte (n : Nat) (on : Bool) (m : Byte) : Byte := if on then m ||| bitMask n else m &&& ~~~(bitMask n)

/-- `ModifyBit(n, b)` (R346). -/
def modifyBit (n : Nat) (on : Bool) (z : Byte) (st : State) : Flow :=
  let t := readTarget (.zp z) st
  (t.st.memWrite t.ea (modifiedByte n on t.m)).andThen fun st => st.sequential 2

/-! ## The meanings, one per row of the opcode table -/

/-- ORA (zp,X), opcode 0x01 (R341). -/
def execOraZpIndX (z : Byte) (s : State) : StepOutcome := (ora (.mem (.zpIndX z)) s).outcome

/-- TSB zp, opcode 0x04 (R345). -/
def execTsbZp (z : Byte) (s : State) : StepOutcome := (tsb (.zp z) s).outcome

/-- ORA zp, opcode 0x05 (R341). -/
def execOraZp (z : Byte) (s : State) : StepOutcome := (ora (.mem (.zp z)) s).outcome

/-- RMB0 zp, opcode 0x07 (R347). -/
def execRmb0 (z : Byte) (s : State) : StepOutcome := (modifyBit 0 false z s).outcome

/-- ORA #, opcode 0x09 (R341). -/
def execOraImm (m : Byte) (s : State) : StepOutcome := (ora (.imm m) s).outcome

/-- TSB a, opcode 0x0C (R345). -/
def execTsbAbs (a : Word) (s : State) : StepOutcome := (tsb (.abs a) s).outcome

/-- ORA a, opcode 0x0D (R341). -/
def execOraAbs (a : Word) (s : State) : StepOutcome := (ora (.mem (.abs a)) s).outcome

/-- ORA (zp),Y, opcode 0x11 (R341). -/
def execOraZpIndY (z : Byte) (s : State) : StepOutcome := (ora (.mem (.zpIndY z)) s).outcome

/-- ORA (zp), opcode 0x12 (R341). -/
def execOraZpInd (z : Byte) (s : State) : StepOutcome := (ora (.mem (.zpInd z)) s).outcome

/-- TRB zp, opcode 0x14 (R344). -/
def execTrbZp (z : Byte) (s : State) : StepOutcome := (trb (.zp z) s).outcome

/-- ORA zp,X, opcode 0x15 (R341). -/
def execOraZpX (z : Byte) (s : State) : StepOutcome := (ora (.mem (.zpX z)) s).outcome

/-- RMB1 zp, opcode 0x17 (R348). -/
def execRmb1 (z : Byte) (s : State) : StepOutcome := (modifyBit 1 false z s).outcome

/-- ORA a,Y, opcode 0x19 (R341). -/
def execOraAbsY (a : Word) (s : State) : StepOutcome := (ora (.mem (.absY a)) s).outcome

/-- TRB a, opcode 0x1C (R344). -/
def execTrbAbs (a : Word) (s : State) : StepOutcome := (trb (.abs a) s).outcome

/-- ORA a,X, opcode 0x1D (R341). -/
def execOraAbsX (a : Word) (s : State) : StepOutcome := (ora (.mem (.absX a)) s).outcome

/-- AND (zp,X), opcode 0x21 (R340). -/
def execAndZpIndX (z : Byte) (s : State) : StepOutcome := (andA (.mem (.zpIndX z)) s).outcome

/-- BIT zp, opcode 0x24 (R343). -/
def execBitZp (z : Byte) (s : State) : StepOutcome := (bitMemory (.zp z) s).outcome

/-- AND zp, opcode 0x25 (R340). -/
def execAndZp (z : Byte) (s : State) : StepOutcome := (andA (.mem (.zp z)) s).outcome

/-- RMB2 zp, opcode 0x27 (R349). -/
def execRmb2 (z : Byte) (s : State) : StepOutcome := (modifyBit 2 false z s).outcome

/-- AND #, opcode 0x29 (R340). -/
def execAndImm (m : Byte) (s : State) : StepOutcome := (andA (.imm m) s).outcome

/-- BIT a, opcode 0x2C (R343). -/
def execBitAbs (a : Word) (s : State) : StepOutcome := (bitMemory (.abs a) s).outcome

/-- AND a, opcode 0x2D (R340). -/
def execAndAbs (a : Word) (s : State) : StepOutcome := (andA (.mem (.abs a)) s).outcome

/-- AND (zp),Y, opcode 0x31 (R340). -/
def execAndZpIndY (z : Byte) (s : State) : StepOutcome := (andA (.mem (.zpIndY z)) s).outcome

/-- AND (zp), opcode 0x32 (R340). -/
def execAndZpInd (z : Byte) (s : State) : StepOutcome := (andA (.mem (.zpInd z)) s).outcome

/-- BIT zp,X, opcode 0x34 (R343). -/
def execBitZpX (z : Byte) (s : State) : StepOutcome := (bitMemory (.zpX z) s).outcome

/-- AND zp,X, opcode 0x35 (R340). -/
def execAndZpX (z : Byte) (s : State) : StepOutcome := (andA (.mem (.zpX z)) s).outcome

/-- RMB3 zp, opcode 0x37 (R350). -/
def execRmb3 (z : Byte) (s : State) : StepOutcome := (modifyBit 3 false z s).outcome

/-- AND a,Y, opcode 0x39 (R340). -/
def execAndAbsY (a : Word) (s : State) : StepOutcome := (andA (.mem (.absY a)) s).outcome

/-- BIT a,X, opcode 0x3C (R343). -/
def execBitAbsX (a : Word) (s : State) : StepOutcome := (bitMemory (.absX a) s).outcome

/-- AND a,X, opcode 0x3D (R340). -/
def execAndAbsX (a : Word) (s : State) : StepOutcome := (andA (.mem (.absX a)) s).outcome

/-- EOR (zp,X), opcode 0x41 (R342). -/
def execEorZpIndX (z : Byte) (s : State) : StepOutcome := (eor (.mem (.zpIndX z)) s).outcome

/-- EOR zp, opcode 0x45 (R342). -/
def execEorZp (z : Byte) (s : State) : StepOutcome := (eor (.mem (.zp z)) s).outcome

/-- RMB4 zp, opcode 0x47 (R351). -/
def execRmb4 (z : Byte) (s : State) : StepOutcome := (modifyBit 4 false z s).outcome

/-- EOR #, opcode 0x49 (R342). -/
def execEorImm (m : Byte) (s : State) : StepOutcome := (eor (.imm m) s).outcome

/-- EOR a, opcode 0x4D (R342). -/
def execEorAbs (a : Word) (s : State) : StepOutcome := (eor (.mem (.abs a)) s).outcome

/-- EOR (zp),Y, opcode 0x51 (R342). -/
def execEorZpIndY (z : Byte) (s : State) : StepOutcome := (eor (.mem (.zpIndY z)) s).outcome

/-- EOR (zp), opcode 0x52 (R342). -/
def execEorZpInd (z : Byte) (s : State) : StepOutcome := (eor (.mem (.zpInd z)) s).outcome

/-- EOR zp,X, opcode 0x55 (R342). -/
def execEorZpX (z : Byte) (s : State) : StepOutcome := (eor (.mem (.zpX z)) s).outcome

/-- RMB5 zp, opcode 0x57 (R352). -/
def execRmb5 (z : Byte) (s : State) : StepOutcome := (modifyBit 5 false z s).outcome

/-- EOR a,Y, opcode 0x59 (R342). -/
def execEorAbsY (a : Word) (s : State) : StepOutcome := (eor (.mem (.absY a)) s).outcome

/-- EOR a,X, opcode 0x5D (R342). -/
def execEorAbsX (a : Word) (s : State) : StepOutcome := (eor (.mem (.absX a)) s).outcome

/-- RMB6 zp, opcode 0x67 (R353). -/
def execRmb6 (z : Byte) (s : State) : StepOutcome := (modifyBit 6 false z s).outcome

/-- RMB7 zp, opcode 0x77 (R354). -/
def execRmb7 (z : Byte) (s : State) : StepOutcome := (modifyBit 7 false z s).outcome

/-- SMB0 zp, opcode 0x87 (R357). -/
def execSmb0 (z : Byte) (s : State) : StepOutcome := (modifyBit 0 true z s).outcome

/-- BIT #, opcode 0x89 (R343). -/
def execBitImm (m : Byte) (s : State) : StepOutcome := (bitImmediate m s).outcome

/-- SMB1 zp, opcode 0x97 (R358). -/
def execSmb1 (z : Byte) (s : State) : StepOutcome := (modifyBit 1 true z s).outcome

/-- SMB2 zp, opcode 0xA7 (R359). -/
def execSmb2 (z : Byte) (s : State) : StepOutcome := (modifyBit 2 true z s).outcome

/-- SMB3 zp, opcode 0xB7 (R360). -/
def execSmb3 (z : Byte) (s : State) : StepOutcome := (modifyBit 3 true z s).outcome

/-- SMB4 zp, opcode 0xC7 (R361). -/
def execSmb4 (z : Byte) (s : State) : StepOutcome := (modifyBit 4 true z s).outcome

/-- SMB5 zp, opcode 0xD7 (R362). -/
def execSmb5 (z : Byte) (s : State) : StepOutcome := (modifyBit 5 true z s).outcome

/-- SMB6 zp, opcode 0xE7 (R363). -/
def execSmb6 (z : Byte) (s : State) : StepOutcome := (modifyBit 6 true z s).outcome

/-- SMB7 zp, opcode 0xF7 (R364). -/
def execSmb7 (z : Byte) (s : State) : StepOutcome := (modifyBit 7 true z s).outcome

end Sys2Proof.Machine
end

