-- ==== Sys2Proof/Machine/Control.lean ====
section
/-! DEFINITION. Control transfer (spec/44_control_transfer.md R280 to R313). -/

namespace Sys2Proof.Machine

/-- `Branch(cond)` (R280): relative to the address of the next instruction. -/
def branch (cond : Bool) (d : Byte) (st : State) : Flow :=
  if cond then st.setPC ((st.pc.toNat : Int) + 2 + s8 d) else st.setPC ((st.pc.toNat : Int) + 2)

/-- BPL (R281). -/
def bpl (d : Byte) (st : State) : Flow := branch (!st.flag .n) d st

/-- BMI (R282). -/
def bmi (d : Byte) (st : State) : Flow := branch (st.flag .n) d st

/-- BVC (R283). -/
def bvc (d : Byte) (st : State) : Flow := branch (!st.flag .v) d st

/-- BVS (R284). -/
def bvs (d : Byte) (st : State) : Flow := branch (st.flag .v) d st

/-- BCC (R285). -/
def bcc (d : Byte) (st : State) : Flow := branch (!st.flag .c) d st

/-- BCS (R286). -/
def bcs (d : Byte) (st : State) : Flow := branch (st.flag .c) d st

/-- BNE (R287). -/
def bne (d : Byte) (st : State) : Flow := branch (!st.flag .z) d st

/-- BEQ (R288). -/
def beq (d : Byte) (st : State) : Flow := branch (st.flag .z) d st

/-- BRA (R289). -/
def bra (d : Byte) (st : State) : Flow := branch true d st

/-- `BranchBit(n, want)` (R290). -/
def branchBit (n : Nat) (want : Bool) (z d : Byte) (st : State) : Flow :=
  let m := st.memRead (zext z)
  if m.1.getLsbD n = want then m.2.setPC ((m.2.pc.toNat : Int) + 3 + s8 d) else m.2.setPC ((m.2.pc.toNat : Int) + 3)

/-- JMP a (R310). -/
def jmp (a : Word) (st : State) : Flow := st.setPC (a.toNat : Int)

/-- JMP (a) (R165, R310). -/
def jmpIndirect (a : Word) (st : State) : Flow :=
  let target := indirectTarget a st
  target.2.setPC (target.1.toNat : Int)

/-- JMP (a,X) (R166, R310). -/
def jmpIndexedIndirect (a : Word) (st : State) : Flow :=
  let target := indexedIndirectTarget a st
  target.2.setPC (target.1.toNat : Int)

/-- JSR pushes the address of its own last byte (R311). -/
def jsr (a : Word) (st : State) : Flow := (st.pushWord (st.pc + 2)).andThen fun st => st.setPC (a.toNat : Int)

/-- RTS resumes one past the pulled address (R312). -/
def rts (st : State) : Flow :=
  let target := st.pullWord
  target.2.setPC ((target.1.toNat : Int) + 1)

/-- RTI (R313). -/
def rti (st : State) : Flow := st.returnFromException

/-! ## The meanings, one per row of the opcode table -/

/-- BBR0 zp,r, opcode 0x0F (R291). -/
def execBbr0 (z : Byte) (d : Byte) (s : State) : StepOutcome := (branchBit 0 false z d s).outcome

/-- BPL r, opcode 0x10 (R281). -/
def execBpl (d : Byte) (s : State) : StepOutcome := (bpl d s).outcome

/-- BBR1 zp,r, opcode 0x1F (R292). -/
def execBbr1 (z : Byte) (d : Byte) (s : State) : StepOutcome := (branchBit 1 false z d s).outcome

/-- JSR a, opcode 0x20 (R311). -/
def execJsr (a : Word) (s : State) : StepOutcome := (jsr a s).outcome

/-- BBR2 zp,r, opcode 0x2F (R293). -/
def execBbr2 (z : Byte) (d : Byte) (s : State) : StepOutcome := (branchBit 2 false z d s).outcome

/-- BMI r, opcode 0x30 (R282). -/
def execBmi (d : Byte) (s : State) : StepOutcome := (bmi d s).outcome

/-- BBR3 zp,r, opcode 0x3F (R294). -/
def execBbr3 (z : Byte) (d : Byte) (s : State) : StepOutcome := (branchBit 3 false z d s).outcome

/-- RTI, opcode 0x40 (R313). -/
def execRti (s : State) : StepOutcome := (rti s).outcome

/-- JMP a, opcode 0x4C (R310). -/
def execJmpAbs (a : Word) (s : State) : StepOutcome := (jmp a s).outcome

/-- BBR4 zp,r, opcode 0x4F (R295). -/
def execBbr4 (z : Byte) (d : Byte) (s : State) : StepOutcome := (branchBit 4 false z d s).outcome

/-- BVC r, opcode 0x50 (R283). -/
def execBvc (d : Byte) (s : State) : StepOutcome := (bvc d s).outcome

/-- BBR5 zp,r, opcode 0x5F (R296). -/
def execBbr5 (z : Byte) (d : Byte) (s : State) : StepOutcome := (branchBit 5 false z d s).outcome

/-- RTS, opcode 0x60 (R312). -/
def execRts (s : State) : StepOutcome := (rts s).outcome

/-- JMP (a), opcode 0x6C (R310). -/
def execJmpAbsInd (a : Word) (s : State) : StepOutcome := (jmpIndirect a s).outcome

/-- BBR6 zp,r, opcode 0x6F (R297). -/
def execBbr6 (z : Byte) (d : Byte) (s : State) : StepOutcome := (branchBit 6 false z d s).outcome

/-- BVS r, opcode 0x70 (R284). -/
def execBvs (d : Byte) (s : State) : StepOutcome := (bvs d s).outcome

/-- JMP (a,X), opcode 0x7C (R310). -/
def execJmpAbsIndX (a : Word) (s : State) : StepOutcome := (jmpIndexedIndirect a s).outcome

/-- BBR7 zp,r, opcode 0x7F (R298). -/
def execBbr7 (z : Byte) (d : Byte) (s : State) : StepOutcome := (branchBit 7 false z d s).outcome

/-- BRA r, opcode 0x80 (R289). -/
def execBra (d : Byte) (s : State) : StepOutcome := (bra d s).outcome

/-- BBS0 zp,r, opcode 0x8F (R301). -/
def execBbs0 (z : Byte) (d : Byte) (s : State) : StepOutcome := (branchBit 0 true z d s).outcome

/-- BCC r, opcode 0x90 (R285). -/
def execBcc (d : Byte) (s : State) : StepOutcome := (bcc d s).outcome

/-- BBS1 zp,r, opcode 0x9F (R302). -/
def execBbs1 (z : Byte) (d : Byte) (s : State) : StepOutcome := (branchBit 1 true z d s).outcome

/-- BBS2 zp,r, opcode 0xAF (R303). -/
def execBbs2 (z : Byte) (d : Byte) (s : State) : StepOutcome := (branchBit 2 true z d s).outcome

/-- BCS r, opcode 0xB0 (R286). -/
def execBcs (d : Byte) (s : State) : StepOutcome := (bcs d s).outcome

/-- BBS3 zp,r, opcode 0xBF (R304). -/
def execBbs3 (z : Byte) (d : Byte) (s : State) : StepOutcome := (branchBit 3 true z d s).outcome

/-- BBS4 zp,r, opcode 0xCF (R305). -/
def execBbs4 (z : Byte) (d : Byte) (s : State) : StepOutcome := (branchBit 4 true z d s).outcome

/-- BNE r, opcode 0xD0 (R287). -/
def execBne (d : Byte) (s : State) : StepOutcome := (bne d s).outcome

/-- BBS5 zp,r, opcode 0xDF (R306). -/
def execBbs5 (z : Byte) (d : Byte) (s : State) : StepOutcome := (branchBit 5 true z d s).outcome

/-- BBS6 zp,r, opcode 0xEF (R307). -/
def execBbs6 (z : Byte) (d : Byte) (s : State) : StepOutcome := (branchBit 6 true z d s).outcome

/-- BEQ r, opcode 0xF0 (R288). -/
def execBeq (d : Byte) (s : State) : StepOutcome := (beq d s).outcome

/-- BBS7 zp,r, opcode 0xFF (R308). -/
def execBbs7 (z : Byte) (d : Byte) (s : State) : StepOutcome := (branchBit 7 true z d s).outcome

end Sys2Proof.Machine
end

