-- ==== Sys2Proof/Machine/LoadStore.lean ====
section
/-! DEFINITION. Loads, stores and register transfers (spec/46_load_store_transfer.md R400 to R412). -/

namespace Sys2Proof.Machine

/-- LDA (R400). -/
def lda (src : Source) (st : State) : Flow :=
  let m := readSource src st
  ((m.2.withA m.1).setNZ m.1).sequential src.length

/-- LDX (R401). -/
def ldx (src : Source) (st : State) : Flow :=
  let m := readSource src st
  ((m.2.withX m.1).setNZ m.1).sequential src.length

/-- LDY (R402). -/
def ldy (src : Source) (st : State) : Flow :=
  let m := readSource src st
  ((m.2.withY m.1).setNZ m.1).sequential src.length

/-- STA (R403). -/
def sta (dst : MemOperand) (st : State) : Flow := storeAt dst st.a st

/-- STX (R404). -/
def stx (dst : MemOperand) (st : State) : Flow := storeAt dst st.x st

/-- STY (R405). -/
def sty (dst : MemOperand) (st : State) : Flow := storeAt dst st.y st

/-- STZ (R406). -/
def stz (dst : MemOperand) (st : State) : Flow := storeAt dst 0x00 st

/-- TAX (R407). -/
def tax (st : State) : Flow := ((st.withX st.a).setNZ st.a).sequential 1

/-- TAY (R408). -/
def tay (st : State) : Flow := ((st.withY st.a).setNZ st.a).sequential 1

/-- TXA (R409). -/
def txa (st : State) : Flow := ((st.withA st.x).setNZ st.x).sequential 1

/-- TYA (R410). -/
def tya (st : State) : Flow := ((st.withA st.y).setNZ st.y).sequential 1

/-- TSX: the 8-bit offset S (R411). -/
def tsx (st : State) : Flow := ((st.withX st.s).setNZ st.s).sequential 1

/-- TXS: no flag (R412). -/
def txs (st : State) : Flow := (st.withS st.x).sequential 1

/-! ## The meanings, one per row of the opcode table -/

/-- STZ zp, opcode 0x64 (R406). -/
def execStzZp (z : Byte) (s : State) : StepOutcome := (stz (.zp z) s).outcome

/-- STZ zp,X, opcode 0x74 (R406). -/
def execStzZpX (z : Byte) (s : State) : StepOutcome := (stz (.zpX z) s).outcome

/-- STA (zp,X), opcode 0x81 (R403). -/
def execStaZpIndX (z : Byte) (s : State) : StepOutcome := (sta (.zpIndX z) s).outcome

/-- STY zp, opcode 0x84 (R405). -/
def execStyZp (z : Byte) (s : State) : StepOutcome := (sty (.zp z) s).outcome

/-- STA zp, opcode 0x85 (R403). -/
def execStaZp (z : Byte) (s : State) : StepOutcome := (sta (.zp z) s).outcome

/-- STX zp, opcode 0x86 (R404). -/
def execStxZp (z : Byte) (s : State) : StepOutcome := (stx (.zp z) s).outcome

/-- TXA, opcode 0x8A (R409). -/
def execTxa (s : State) : StepOutcome := (txa s).outcome

/-- STY a, opcode 0x8C (R405). -/
def execStyAbs (a : Word) (s : State) : StepOutcome := (sty (.abs a) s).outcome

/-- STA a, opcode 0x8D (R403). -/
def execStaAbs (a : Word) (s : State) : StepOutcome := (sta (.abs a) s).outcome

/-- STX a, opcode 0x8E (R404). -/
def execStxAbs (a : Word) (s : State) : StepOutcome := (stx (.abs a) s).outcome

/-- STA (zp),Y, opcode 0x91 (R403). -/
def execStaZpIndY (z : Byte) (s : State) : StepOutcome := (sta (.zpIndY z) s).outcome

/-- STA (zp), opcode 0x92 (R403). -/
def execStaZpInd (z : Byte) (s : State) : StepOutcome := (sta (.zpInd z) s).outcome

/-- STY zp,X, opcode 0x94 (R405). -/
def execStyZpX (z : Byte) (s : State) : StepOutcome := (sty (.zpX z) s).outcome

/-- STA zp,X, opcode 0x95 (R403). -/
def execStaZpX (z : Byte) (s : State) : StepOutcome := (sta (.zpX z) s).outcome

/-- STX zp,Y, opcode 0x96 (R404). -/
def execStxZpY (z : Byte) (s : State) : StepOutcome := (stx (.zpY z) s).outcome

/-- TYA, opcode 0x98 (R410). -/
def execTya (s : State) : StepOutcome := (tya s).outcome

/-- STA a,Y, opcode 0x99 (R403). -/
def execStaAbsY (a : Word) (s : State) : StepOutcome := (sta (.absY a) s).outcome

/-- TXS, opcode 0x9A (R412). -/
def execTxs (s : State) : StepOutcome := (txs s).outcome

/-- STZ a, opcode 0x9C (R406). -/
def execStzAbs (a : Word) (s : State) : StepOutcome := (stz (.abs a) s).outcome

/-- STA a,X, opcode 0x9D (R403). -/
def execStaAbsX (a : Word) (s : State) : StepOutcome := (sta (.absX a) s).outcome

/-- STZ a,X, opcode 0x9E (R406). -/
def execStzAbsX (a : Word) (s : State) : StepOutcome := (stz (.absX a) s).outcome

/-- LDY #, opcode 0xA0 (R402). -/
def execLdyImm (m : Byte) (s : State) : StepOutcome := (ldy (.imm m) s).outcome

/-- LDA (zp,X), opcode 0xA1 (R400). -/
def execLdaZpIndX (z : Byte) (s : State) : StepOutcome := (lda (.mem (.zpIndX z)) s).outcome

/-- LDX #, opcode 0xA2 (R401). -/
def execLdxImm (m : Byte) (s : State) : StepOutcome := (ldx (.imm m) s).outcome

/-- LDY zp, opcode 0xA4 (R402). -/
def execLdyZp (z : Byte) (s : State) : StepOutcome := (ldy (.mem (.zp z)) s).outcome

/-- LDA zp, opcode 0xA5 (R400). -/
def execLdaZp (z : Byte) (s : State) : StepOutcome := (lda (.mem (.zp z)) s).outcome

/-- LDX zp, opcode 0xA6 (R401). -/
def execLdxZp (z : Byte) (s : State) : StepOutcome := (ldx (.mem (.zp z)) s).outcome

/-- TAY, opcode 0xA8 (R408). -/
def execTay (s : State) : StepOutcome := (tay s).outcome

/-- LDA #, opcode 0xA9 (R400). -/
def execLdaImm (m : Byte) (s : State) : StepOutcome := (lda (.imm m) s).outcome

/-- TAX, opcode 0xAA (R407). -/
def execTax (s : State) : StepOutcome := (tax s).outcome

/-- LDY a, opcode 0xAC (R402). -/
def execLdyAbs (a : Word) (s : State) : StepOutcome := (ldy (.mem (.abs a)) s).outcome

/-- LDA a, opcode 0xAD (R400). -/
def execLdaAbs (a : Word) (s : State) : StepOutcome := (lda (.mem (.abs a)) s).outcome

/-- LDX a, opcode 0xAE (R401). -/
def execLdxAbs (a : Word) (s : State) : StepOutcome := (ldx (.mem (.abs a)) s).outcome

/-- LDA (zp),Y, opcode 0xB1 (R400). -/
def execLdaZpIndY (z : Byte) (s : State) : StepOutcome := (lda (.mem (.zpIndY z)) s).outcome

/-- LDA (zp), opcode 0xB2 (R400). -/
def execLdaZpInd (z : Byte) (s : State) : StepOutcome := (lda (.mem (.zpInd z)) s).outcome

/-- LDY zp,X, opcode 0xB4 (R402). -/
def execLdyZpX (z : Byte) (s : State) : StepOutcome := (ldy (.mem (.zpX z)) s).outcome

/-- LDA zp,X, opcode 0xB5 (R400). -/
def execLdaZpX (z : Byte) (s : State) : StepOutcome := (lda (.mem (.zpX z)) s).outcome

/-- LDX zp,Y, opcode 0xB6 (R401). -/
def execLdxZpY (z : Byte) (s : State) : StepOutcome := (ldx (.mem (.zpY z)) s).outcome

/-- LDA a,Y, opcode 0xB9 (R400). -/
def execLdaAbsY (a : Word) (s : State) : StepOutcome := (lda (.mem (.absY a)) s).outcome

/-- TSX, opcode 0xBA (R411). -/
def execTsx (s : State) : StepOutcome := (tsx s).outcome

/-- LDY a,X, opcode 0xBC (R402). -/
def execLdyAbsX (a : Word) (s : State) : StepOutcome := (ldy (.mem (.absX a)) s).outcome

/-- LDA a,X, opcode 0xBD (R400). -/
def execLdaAbsX (a : Word) (s : State) : StepOutcome := (lda (.mem (.absX a)) s).outcome

/-- LDX a,Y, opcode 0xBE (R401). -/
def execLdxAbsY (a : Word) (s : State) : StepOutcome := (ldx (.mem (.absY a)) s).outcome

end Sys2Proof.Machine
end

