-- ==== Sys2Proof/Machine/ShiftRotate.lean ====
section
/-! DEFINITION. Shifts and rotates (spec/42_shift_rotate.md R240 to R244). The shifted bytes are in
Machine/Flags.lean. -/

namespace Sys2Proof.Machine

/-- A shift of a memory byte: C is written before the Write, N and Z after it (R240 to R243). -/
def shiftMemory (shift : Byte → Bool → ShiftResult) (dst : MemOperand) (st : State) : Flow :=
  let t := readTarget dst st
  let res := shift t.m (t.st.flag .c)
  ((t.st.withFlag .c res.c).memWrite t.ea res.r).andThen fun st => (st.setNZ res.r).sequential dst.length

/-- A shift of A (R152, R240 to R243). -/
def shiftA (shift : Byte → Bool → ShiftResult) (st : State) : Flow :=
  let res := shift st.a (st.flag .c)
  (((st.withFlag .c res.c).withA res.r).setNZ res.r).sequential 1

/-- ASL of memory (R240). -/
def aslMemory (dst : MemOperand) (st : State) : Flow := shiftMemory (fun v _ => aslByte v) dst st

/-- LSR of memory (R241). -/
def lsrMemory (dst : MemOperand) (st : State) : Flow := shiftMemory (fun v _ => lsrByte v) dst st

/-- ROL of memory (R242). -/
def rolMemory (dst : MemOperand) (st : State) : Flow := shiftMemory rolByte dst st

/-- ROR of memory (R243). -/
def rorMemory (dst : MemOperand) (st : State) : Flow := shiftMemory rorByte dst st

/-- ASL A (R240). -/
def aslA (st : State) : Flow := shiftA (fun v _ => aslByte v) st

/-- LSR A (R241). -/
def lsrA (st : State) : Flow := shiftA (fun v _ => lsrByte v) st

/-- ROL A (R242). -/
def rolA (st : State) : Flow := shiftA rolByte st

/-- ROR A (R243). -/
def rorA (st : State) : Flow := shiftA rorByte st

/-! ## The meanings, one per row of the opcode table -/

/-- ASL zp, opcode 0x06 (R240). -/
def execAslZp (z : Byte) (s : State) : StepOutcome := (aslMemory (.zp z) s).outcome

/-- ASL A, opcode 0x0A (R240). -/
def execAslAcc (s : State) : StepOutcome := (aslA s).outcome

/-- ASL a, opcode 0x0E (R240). -/
def execAslAbs (a : Word) (s : State) : StepOutcome := (aslMemory (.abs a) s).outcome

/-- ASL zp,X, opcode 0x16 (R240). -/
def execAslZpX (z : Byte) (s : State) : StepOutcome := (aslMemory (.zpX z) s).outcome

/-- ASL a,X, opcode 0x1E (R240). -/
def execAslAbsX (a : Word) (s : State) : StepOutcome := (aslMemory (.absX a) s).outcome

/-- ROL zp, opcode 0x26 (R242). -/
def execRolZp (z : Byte) (s : State) : StepOutcome := (rolMemory (.zp z) s).outcome

/-- ROL A, opcode 0x2A (R242). -/
def execRolAcc (s : State) : StepOutcome := (rolA s).outcome

/-- ROL a, opcode 0x2E (R242). -/
def execRolAbs (a : Word) (s : State) : StepOutcome := (rolMemory (.abs a) s).outcome

/-- ROL zp,X, opcode 0x36 (R242). -/
def execRolZpX (z : Byte) (s : State) : StepOutcome := (rolMemory (.zpX z) s).outcome

/-- ROL a,X, opcode 0x3E (R242). -/
def execRolAbsX (a : Word) (s : State) : StepOutcome := (rolMemory (.absX a) s).outcome

/-- LSR zp, opcode 0x46 (R241). -/
def execLsrZp (z : Byte) (s : State) : StepOutcome := (lsrMemory (.zp z) s).outcome

/-- LSR A, opcode 0x4A (R241). -/
def execLsrAcc (s : State) : StepOutcome := (lsrA s).outcome

/-- LSR a, opcode 0x4E (R241). -/
def execLsrAbs (a : Word) (s : State) : StepOutcome := (lsrMemory (.abs a) s).outcome

/-- LSR zp,X, opcode 0x56 (R241). -/
def execLsrZpX (z : Byte) (s : State) : StepOutcome := (lsrMemory (.zpX z) s).outcome

/-- LSR a,X, opcode 0x5E (R241). -/
def execLsrAbsX (a : Word) (s : State) : StepOutcome := (lsrMemory (.absX a) s).outcome

/-- ROR zp, opcode 0x66 (R243). -/
def execRorZp (z : Byte) (s : State) : StepOutcome := (rorMemory (.zp z) s).outcome

/-- ROR A, opcode 0x6A (R243). -/
def execRorAcc (s : State) : StepOutcome := (rorA s).outcome

/-- ROR a, opcode 0x6E (R243). -/
def execRorAbs (a : Word) (s : State) : StepOutcome := (rorMemory (.abs a) s).outcome

/-- ROR zp,X, opcode 0x76 (R243). -/
def execRorZpX (z : Byte) (s : State) : StepOutcome := (rorMemory (.zpX z) s).outcome

/-- ROR a,X, opcode 0x7E (R243). -/
def execRorAbsX (a : Word) (s : State) : StepOutcome := (rorMemory (.absX a) s).outcome

end Sys2Proof.Machine
end

