-- ==== Sys2Proof/Machine/Stack.lean ====
section
/-! DEFINITION. The stack instructions (spec/43_stack.md R260 to R268). -/

namespace Sys2Proof.Machine

/-- A push and then the next instruction (R260 to R263). -/
def pushByte (v : Byte) (st : State) : Flow := (st.push v).andThen fun st => st.sequential 1

/-- PHA (R260). -/
def pha (st : State) : Flow := pushByte st.a st

/-- PHX (R261). -/
def phx (st : State) : Flow := pushByte st.x st

/-- PHY (R262). -/
def phy (st : State) : Flow := pushByte st.y st

/-- PHP: bits 4 and 5 of the copy are set (R263). -/
def php (st : State) : Flow := pushByte (pushedByInstruction st.p) st

/-- PLA (R264). -/
def pla (st : State) : Flow :=
  let v := st.pull
  ((v.2.withA v.1).setNZ v.1).sequential 1

/-- PLX (R265). -/
def plx (st : State) : Flow :=
  let v := st.pull
  ((v.2.withX v.1).setNZ v.1).sequential 1

/-- PLY (R266). -/
def ply (st : State) : Flow :=
  let v := st.pull
  ((v.2.withY v.1).setNZ v.1).sequential 1

/-- PLP: bits 4 and 5 of the pulled byte are discarded (R267). -/
def plp (st : State) : Flow :=
  let v := st.pull
  (v.2.withP (pulledStatus v.1)).sequential 1

/-! ## The meanings, one per row of the opcode table -/

/-- PHP, opcode 0x08 (R263). -/
def execPhp (s : State) : StepOutcome := (php s).outcome

/-- PLP, opcode 0x28 (R267). -/
def execPlp (s : State) : StepOutcome := (plp s).outcome

/-- PHA, opcode 0x48 (R260). -/
def execPha (s : State) : StepOutcome := (pha s).outcome

/-- PHY, opcode 0x5A (R262). -/
def execPhy (s : State) : StepOutcome := (phy s).outcome

/-- PLA, opcode 0x68 (R264). -/
def execPla (s : State) : StepOutcome := (pla s).outcome

/-- PLY, opcode 0x7A (R266). -/
def execPly (s : State) : StepOutcome := (ply s).outcome

/-- PHX, opcode 0xDA (R261). -/
def execPhx (s : State) : StepOutcome := (phx s).outcome

/-- PLX, opcode 0xFA (R265). -/
def execPlx (s : State) : StepOutcome := (plx s).outcome

end Sys2Proof.Machine
end

