-- ==== Sys2Proof/Machine/System.lean ====
section
/-! DEFINITION. System instructions (spec/47_system.md R430 to R456). -/

namespace Sys2Proof.Machine

/-- BRK (R430): taken when I is clear or `BRK_MASKED = hardware`; otherwise it passes on, setting B under `halt`. The
signature byte has been fetched and is ignored (R122). -/
def brk (st : State) : Flow :=
  if st.flag .i then
    match st.cfg.brkMasked with
    | .hardware => st.takeException .brk
    | .halt => (st.withFlag .b true).sequential 2
    | .nop => st.sequential 2
  else st.takeException .brk

/-- WAI (R440). -/
def wai (st : State) : Flow := (st.withWaiting true).sequential 1

/-- STP (R441). -/
def stp (st : State) : Flow := (st.withStp true).sequential 1

/-- NOP (R442). -/
def nop (st : State) : Flow := st.sequential 1

/-- CLC (R450). -/
def clc (st : State) : Flow := (st.withFlag .c false).sequential 1

/-- SEC (R451). -/
def sec (st : State) : Flow := (st.withFlag .c true).sequential 1

/-- CLI (R452). -/
def cli (st : State) : Flow := (st.withFlag .i false).sequential 1

/-- SEI (R453). -/
def sei (st : State) : Flow := (st.withFlag .i true).sequential 1

/-- CLD (R454). -/
def cld (st : State) : Flow := (st.withFlag .d false).sequential 1

/-- SED (R455). -/
def sed (st : State) : Flow := (st.withFlag .d true).sequential 1

/-- CLV (R456). -/
def clv (st : State) : Flow := (st.withFlag .v false).sequential 1

/-! ## The meanings, one per row of the opcode table -/

/-- BRK, opcode 0x00 (R430). -/
def execBrk (_sig : Byte) (s : State) : StepOutcome := (brk s).outcome

/-- CLC, opcode 0x18 (R450). -/
def execClc (s : State) : StepOutcome := (clc s).outcome

/-- SEC, opcode 0x38 (R451). -/
def execSec (s : State) : StepOutcome := (sec s).outcome

/-- CLI, opcode 0x58 (R452). -/
def execCli (s : State) : StepOutcome := (cli s).outcome

/-- SEI, opcode 0x78 (R453). -/
def execSei (s : State) : StepOutcome := (sei s).outcome

/-- CLV, opcode 0xB8 (R456). -/
def execClv (s : State) : StepOutcome := (clv s).outcome

/-- WAI, opcode 0xCB (R440). -/
def execWai (s : State) : StepOutcome := (wai s).outcome

/-- CLD, opcode 0xD8 (R454). -/
def execCld (s : State) : StepOutcome := (cld s).outcome

/-- STP, opcode 0xDB (R441). -/
def execStp (s : State) : StepOutcome := (stp s).outcome

/-- NOP, opcode 0xEA (R442). -/
def execNop (s : State) : StepOutcome := (nop s).outcome

/-- SED, opcode 0xF8 (R455). -/
def execSed (s : State) : StepOutcome := (sed s).outcome

end Sys2Proof.Machine
end

