-- ==== Sys2Proof/Machine/Dispatch.lean ====
section
/-! DEFINITION. The operation executor of the dispatch table (spec/30_encoding.md R125): one arm per constructor. The
state an arm takes is the one after the opcode and operand fetches, with PC still at the opcode (R36). -/

namespace Sys2Proof.Machine

def exec (i : Instr) (s : State) : Host.Outcome State Fault Refusal :=
  match i with
  | .brk sig => Sys2Proof.Machine.execBrk sig s
  | .oraZpIndX z => Sys2Proof.Machine.execOraZpIndX z s
  | .tsbZp z => Sys2Proof.Machine.execTsbZp z s
  | .oraZp z => Sys2Proof.Machine.execOraZp z s
  | .aslZp z => Sys2Proof.Machine.execAslZp z s
  | .rmb0 z => Sys2Proof.Machine.execRmb0 z s
  | .php => Sys2Proof.Machine.execPhp s
  | .oraImm m => Sys2Proof.Machine.execOraImm m s
  | .aslAcc => Sys2Proof.Machine.execAslAcc s
  | .tsbAbs a => Sys2Proof.Machine.execTsbAbs a s
  | .oraAbs a => Sys2Proof.Machine.execOraAbs a s
  | .aslAbs a => Sys2Proof.Machine.execAslAbs a s
  | .bbr0 z d => Sys2Proof.Machine.execBbr0 z d s
  | .bpl d => Sys2Proof.Machine.execBpl d s
  | .oraZpIndY z => Sys2Proof.Machine.execOraZpIndY z s
  | .oraZpInd z => Sys2Proof.Machine.execOraZpInd z s
  | .trbZp z => Sys2Proof.Machine.execTrbZp z s
  | .oraZpX z => Sys2Proof.Machine.execOraZpX z s
  | .aslZpX z => Sys2Proof.Machine.execAslZpX z s
  | .rmb1 z => Sys2Proof.Machine.execRmb1 z s
  | .clc => Sys2Proof.Machine.execClc s
  | .oraAbsY a => Sys2Proof.Machine.execOraAbsY a s
  | .incAcc => Sys2Proof.Machine.execIncAcc s
  | .trbAbs a => Sys2Proof.Machine.execTrbAbs a s
  | .oraAbsX a => Sys2Proof.Machine.execOraAbsX a s
  | .aslAbsX a => Sys2Proof.Machine.execAslAbsX a s
  | .bbr1 z d => Sys2Proof.Machine.execBbr1 z d s
  | .jsr a => Sys2Proof.Machine.execJsr a s
  | .andZpIndX z => Sys2Proof.Machine.execAndZpIndX z s
  | .bitZp z => Sys2Proof.Machine.execBitZp z s
  | .andZp z => Sys2Proof.Machine.execAndZp z s
  | .rolZp z => Sys2Proof.Machine.execRolZp z s
  | .rmb2 z => Sys2Proof.Machine.execRmb2 z s
  | .plp => Sys2Proof.Machine.execPlp s
  | .andImm m => Sys2Proof.Machine.execAndImm m s
  | .rolAcc => Sys2Proof.Machine.execRolAcc s
  | .bitAbs a => Sys2Proof.Machine.execBitAbs a s
  | .andAbs a => Sys2Proof.Machine.execAndAbs a s
  | .rolAbs a => Sys2Proof.Machine.execRolAbs a s
  | .bbr2 z d => Sys2Proof.Machine.execBbr2 z d s
  | .bmi d => Sys2Proof.Machine.execBmi d s
  | .andZpIndY z => Sys2Proof.Machine.execAndZpIndY z s
  | .andZpInd z => Sys2Proof.Machine.execAndZpInd z s
  | .bitZpX z => Sys2Proof.Machine.execBitZpX z s
  | .andZpX z => Sys2Proof.Machine.execAndZpX z s
  | .rolZpX z => Sys2Proof.Machine.execRolZpX z s
  | .rmb3 z => Sys2Proof.Machine.execRmb3 z s
  | .sec => Sys2Proof.Machine.execSec s
  | .andAbsY a => Sys2Proof.Machine.execAndAbsY a s
  | .decAcc => Sys2Proof.Machine.execDecAcc s
  | .bitAbsX a => Sys2Proof.Machine.execBitAbsX a s
  | .andAbsX a => Sys2Proof.Machine.execAndAbsX a s
  | .rolAbsX a => Sys2Proof.Machine.execRolAbsX a s
  | .bbr3 z d => Sys2Proof.Machine.execBbr3 z d s
  | .rti => Sys2Proof.Machine.execRti s
  | .eorZpIndX z => Sys2Proof.Machine.execEorZpIndX z s
  | .eorZp z => Sys2Proof.Machine.execEorZp z s
  | .lsrZp z => Sys2Proof.Machine.execLsrZp z s
  | .rmb4 z => Sys2Proof.Machine.execRmb4 z s
  | .pha => Sys2Proof.Machine.execPha s
  | .eorImm m => Sys2Proof.Machine.execEorImm m s
  | .lsrAcc => Sys2Proof.Machine.execLsrAcc s
  | .jmpAbs a => Sys2Proof.Machine.execJmpAbs a s
  | .eorAbs a => Sys2Proof.Machine.execEorAbs a s
  | .lsrAbs a => Sys2Proof.Machine.execLsrAbs a s
  | .bbr4 z d => Sys2Proof.Machine.execBbr4 z d s
  | .bvc d => Sys2Proof.Machine.execBvc d s
  | .eorZpIndY z => Sys2Proof.Machine.execEorZpIndY z s
  | .eorZpInd z => Sys2Proof.Machine.execEorZpInd z s
  | .eorZpX z => Sys2Proof.Machine.execEorZpX z s
  | .lsrZpX z => Sys2Proof.Machine.execLsrZpX z s
  | .rmb5 z => Sys2Proof.Machine.execRmb5 z s
  | .cli => Sys2Proof.Machine.execCli s
  | .eorAbsY a => Sys2Proof.Machine.execEorAbsY a s
  | .phy => Sys2Proof.Machine.execPhy s
  | .eorAbsX a => Sys2Proof.Machine.execEorAbsX a s
  | .lsrAbsX a => Sys2Proof.Machine.execLsrAbsX a s
  | .bbr5 z d => Sys2Proof.Machine.execBbr5 z d s
  | .rts => Sys2Proof.Machine.execRts s
  | .adcZpIndX z => Sys2Proof.Machine.execAdcZpIndX z s
  | .stzZp z => Sys2Proof.Machine.execStzZp z s
  | .adcZp z => Sys2Proof.Machine.execAdcZp z s
  | .rorZp z => Sys2Proof.Machine.execRorZp z s
  | .rmb6 z => Sys2Proof.Machine.execRmb6 z s
  | .pla => Sys2Proof.Machine.execPla s
  | .adcImm m => Sys2Proof.Machine.execAdcImm m s
  | .rorAcc => Sys2Proof.Machine.execRorAcc s
  | .jmpAbsInd a => Sys2Proof.Machine.execJmpAbsInd a s
  | .adcAbs a => Sys2Proof.Machine.execAdcAbs a s
  | .rorAbs a => Sys2Proof.Machine.execRorAbs a s
  | .bbr6 z d => Sys2Proof.Machine.execBbr6 z d s
  | .bvs d => Sys2Proof.Machine.execBvs d s
  | .adcZpIndY z => Sys2Proof.Machine.execAdcZpIndY z s
  | .adcZpInd z => Sys2Proof.Machine.execAdcZpInd z s
  | .stzZpX z => Sys2Proof.Machine.execStzZpX z s
  | .adcZpX z => Sys2Proof.Machine.execAdcZpX z s
  | .rorZpX z => Sys2Proof.Machine.execRorZpX z s
  | .rmb7 z => Sys2Proof.Machine.execRmb7 z s
  | .sei => Sys2Proof.Machine.execSei s
  | .adcAbsY a => Sys2Proof.Machine.execAdcAbsY a s
  | .ply => Sys2Proof.Machine.execPly s
  | .jmpAbsIndX a => Sys2Proof.Machine.execJmpAbsIndX a s
  | .adcAbsX a => Sys2Proof.Machine.execAdcAbsX a s
  | .rorAbsX a => Sys2Proof.Machine.execRorAbsX a s
  | .bbr7 z d => Sys2Proof.Machine.execBbr7 z d s
  | .bra d => Sys2Proof.Machine.execBra d s
  | .staZpIndX z => Sys2Proof.Machine.execStaZpIndX z s
  | .styZp z => Sys2Proof.Machine.execStyZp z s
  | .staZp z => Sys2Proof.Machine.execStaZp z s
  | .stxZp z => Sys2Proof.Machine.execStxZp z s
  | .smb0 z => Sys2Proof.Machine.execSmb0 z s
  | .dey => Sys2Proof.Machine.execDey s
  | .bitImm m => Sys2Proof.Machine.execBitImm m s
  | .txa => Sys2Proof.Machine.execTxa s
  | .styAbs a => Sys2Proof.Machine.execStyAbs a s
  | .staAbs a => Sys2Proof.Machine.execStaAbs a s
  | .stxAbs a => Sys2Proof.Machine.execStxAbs a s
  | .bbs0 z d => Sys2Proof.Machine.execBbs0 z d s
  | .bcc d => Sys2Proof.Machine.execBcc d s
  | .staZpIndY z => Sys2Proof.Machine.execStaZpIndY z s
  | .staZpInd z => Sys2Proof.Machine.execStaZpInd z s
  | .styZpX z => Sys2Proof.Machine.execStyZpX z s
  | .staZpX z => Sys2Proof.Machine.execStaZpX z s
  | .stxZpY z => Sys2Proof.Machine.execStxZpY z s
  | .smb1 z => Sys2Proof.Machine.execSmb1 z s
  | .tya => Sys2Proof.Machine.execTya s
  | .staAbsY a => Sys2Proof.Machine.execStaAbsY a s
  | .txs => Sys2Proof.Machine.execTxs s
  | .stzAbs a => Sys2Proof.Machine.execStzAbs a s
  | .staAbsX a => Sys2Proof.Machine.execStaAbsX a s
  | .stzAbsX a => Sys2Proof.Machine.execStzAbsX a s
  | .bbs1 z d => Sys2Proof.Machine.execBbs1 z d s
  | .ldyImm m => Sys2Proof.Machine.execLdyImm m s
  | .ldaZpIndX z => Sys2Proof.Machine.execLdaZpIndX z s
  | .ldxImm m => Sys2Proof.Machine.execLdxImm m s
  | .ldyZp z => Sys2Proof.Machine.execLdyZp z s
  | .ldaZp z => Sys2Proof.Machine.execLdaZp z s
  | .ldxZp z => Sys2Proof.Machine.execLdxZp z s
  | .smb2 z => Sys2Proof.Machine.execSmb2 z s
  | .tay => Sys2Proof.Machine.execTay s
  | .ldaImm m => Sys2Proof.Machine.execLdaImm m s
  | .tax => Sys2Proof.Machine.execTax s
  | .ldyAbs a => Sys2Proof.Machine.execLdyAbs a s
  | .ldaAbs a => Sys2Proof.Machine.execLdaAbs a s
  | .ldxAbs a => Sys2Proof.Machine.execLdxAbs a s
  | .bbs2 z d => Sys2Proof.Machine.execBbs2 z d s
  | .bcs d => Sys2Proof.Machine.execBcs d s
  | .ldaZpIndY z => Sys2Proof.Machine.execLdaZpIndY z s
  | .ldaZpInd z => Sys2Proof.Machine.execLdaZpInd z s
  | .ldyZpX z => Sys2Proof.Machine.execLdyZpX z s
  | .ldaZpX z => Sys2Proof.Machine.execLdaZpX z s
  | .ldxZpY z => Sys2Proof.Machine.execLdxZpY z s
  | .smb3 z => Sys2Proof.Machine.execSmb3 z s
  | .clv => Sys2Proof.Machine.execClv s
  | .ldaAbsY a => Sys2Proof.Machine.execLdaAbsY a s
  | .tsx => Sys2Proof.Machine.execTsx s
  | .ldyAbsX a => Sys2Proof.Machine.execLdyAbsX a s
  | .ldaAbsX a => Sys2Proof.Machine.execLdaAbsX a s
  | .ldxAbsY a => Sys2Proof.Machine.execLdxAbsY a s
  | .bbs3 z d => Sys2Proof.Machine.execBbs3 z d s
  | .cpyImm m => Sys2Proof.Machine.execCpyImm m s
  | .cmpZpIndX z => Sys2Proof.Machine.execCmpZpIndX z s
  | .cpyZp z => Sys2Proof.Machine.execCpyZp z s
  | .cmpZp z => Sys2Proof.Machine.execCmpZp z s
  | .decZp z => Sys2Proof.Machine.execDecZp z s
  | .smb4 z => Sys2Proof.Machine.execSmb4 z s
  | .iny => Sys2Proof.Machine.execIny s
  | .cmpImm m => Sys2Proof.Machine.execCmpImm m s
  | .dex => Sys2Proof.Machine.execDex s
  | .wai => Sys2Proof.Machine.execWai s
  | .cpyAbs a => Sys2Proof.Machine.execCpyAbs a s
  | .cmpAbs a => Sys2Proof.Machine.execCmpAbs a s
  | .decAbs a => Sys2Proof.Machine.execDecAbs a s
  | .bbs4 z d => Sys2Proof.Machine.execBbs4 z d s
  | .bne d => Sys2Proof.Machine.execBne d s
  | .cmpZpIndY z => Sys2Proof.Machine.execCmpZpIndY z s
  | .cmpZpInd z => Sys2Proof.Machine.execCmpZpInd z s
  | .cmpZpX z => Sys2Proof.Machine.execCmpZpX z s
  | .decZpX z => Sys2Proof.Machine.execDecZpX z s
  | .smb5 z => Sys2Proof.Machine.execSmb5 z s
  | .cld => Sys2Proof.Machine.execCld s
  | .cmpAbsY a => Sys2Proof.Machine.execCmpAbsY a s
  | .phx => Sys2Proof.Machine.execPhx s
  | .stp => Sys2Proof.Machine.execStp s
  | .cmpAbsX a => Sys2Proof.Machine.execCmpAbsX a s
  | .decAbsX a => Sys2Proof.Machine.execDecAbsX a s
  | .bbs5 z d => Sys2Proof.Machine.execBbs5 z d s
  | .cpxImm m => Sys2Proof.Machine.execCpxImm m s
  | .sbcZpIndX z => Sys2Proof.Machine.execSbcZpIndX z s
  | .cpxZp z => Sys2Proof.Machine.execCpxZp z s
  | .sbcZp z => Sys2Proof.Machine.execSbcZp z s
  | .incZp z => Sys2Proof.Machine.execIncZp z s
  | .smb6 z => Sys2Proof.Machine.execSmb6 z s
  | .inx => Sys2Proof.Machine.execInx s
  | .sbcImm m => Sys2Proof.Machine.execSbcImm m s
  | .nop => Sys2Proof.Machine.execNop s
  | .cpxAbs a => Sys2Proof.Machine.execCpxAbs a s
  | .sbcAbs a => Sys2Proof.Machine.execSbcAbs a s
  | .incAbs a => Sys2Proof.Machine.execIncAbs a s
  | .bbs6 z d => Sys2Proof.Machine.execBbs6 z d s
  | .beq d => Sys2Proof.Machine.execBeq d s
  | .sbcZpIndY z => Sys2Proof.Machine.execSbcZpIndY z s
  | .sbcZpInd z => Sys2Proof.Machine.execSbcZpInd z s
  | .sbcZpX z => Sys2Proof.Machine.execSbcZpX z s
  | .incZpX z => Sys2Proof.Machine.execIncZpX z s
  | .smb7 z => Sys2Proof.Machine.execSmb7 z s
  | .sed => Sys2Proof.Machine.execSed s
  | .sbcAbsY a => Sys2Proof.Machine.execSbcAbsY a s
  | .plx => Sys2Proof.Machine.execPlx s
  | .sbcAbsX a => Sys2Proof.Machine.execSbcAbsX a s
  | .incAbsX a => Sys2Proof.Machine.execIncAbsX a s
  | .bbs7 z d => Sys2Proof.Machine.execBbs7 z d s

end Sys2Proof.Machine
end

