-- ==== Sys2Proof/WellFormed.lean ====
section
/-! DEFINITION. Which instructions a configuration tabulates (spec/00_scope.md R12, spec/30_encoding.md R134). The
well-formedness of a memory map (R78) is `mapWf` in Machine/Bus.lean. -/

namespace Sys2Proof

/-- The 32 opcodes that exist only with `ROCKWELL_BIT_OPS` (R12, R134). -/
def Instr.isBitOp : Instr → Bool
  | .brk _ => false
  | .oraZpIndX _ => false
  | .tsbZp _ => false
  | .oraZp _ => false
  | .aslZp _ => false
  | .rmb0 _ => true
  | .php => false
  | .oraImm _ => false
  | .aslAcc => false
  | .tsbAbs _ => false
  | .oraAbs _ => false
  | .aslAbs _ => false
  | .bbr0 _ _ => true
  | .bpl _ => false
  | .oraZpIndY _ => false
  | .oraZpInd _ => false
  | .trbZp _ => false
  | .oraZpX _ => false
  | .aslZpX _ => false
  | .rmb1 _ => true
  | .clc => false
  | .oraAbsY _ => false
  | .incAcc => false
  | .trbAbs _ => false
  | .oraAbsX _ => false
  | .aslAbsX _ => false
  | .bbr1 _ _ => true
  | .jsr _ => false
  | .andZpIndX _ => false
  | .bitZp _ => false
  | .andZp _ => false
  | .rolZp _ => false
  | .rmb2 _ => true
  | .plp => false
  | .andImm _ => false
  | .rolAcc => false
  | .bitAbs _ => false
  | .andAbs _ => false
  | .rolAbs _ => false
  | .bbr2 _ _ => true
  | .bmi _ => false
  | .andZpIndY _ => false
  | .andZpInd _ => false
  | .bitZpX _ => false
  | .andZpX _ => false
  | .rolZpX _ => false
  | .rmb3 _ => true
  | .sec => false
  | .andAbsY _ => false
  | .decAcc => false
  | .bitAbsX _ => false
  | .andAbsX _ => false
  | .rolAbsX _ => false
  | .bbr3 _ _ => true
  | .rti => false
  | .eorZpIndX _ => false
  | .eorZp _ => false
  | .lsrZp _ => false
  | .rmb4 _ => true
  | .pha => false
  | .eorImm _ => false
  | .lsrAcc => false
  | .jmpAbs _ => false
  | .eorAbs _ => false
  | .lsrAbs _ => false
  | .bbr4 _ _ => true
  | .bvc _ => false
  | .eorZpIndY _ => false
  | .eorZpInd _ => false
  | .eorZpX _ => false
  | .lsrZpX _ => false
  | .rmb5 _ => true
  | .cli => false
  | .eorAbsY _ => false
  | .phy => false
  | .eorAbsX _ => false
  | .lsrAbsX _ => false
  | .bbr5 _ _ => true
  | .rts => false
  | .adcZpIndX _ => false
  | .stzZp _ => false
  | .adcZp _ => false
  | .rorZp _ => false
  | .rmb6 _ => true
  | .pla => false
  | .adcImm _ => false
  | .rorAcc => false
  | .jmpAbsInd _ => false
  | .adcAbs _ => false
  | .rorAbs _ => false
  | .bbr6 _ _ => true
  | .bvs _ => false
  | .adcZpIndY _ => false
  | .adcZpInd _ => false
  | .stzZpX _ => false
  | .adcZpX _ => false
  | .rorZpX _ => false
  | .rmb7 _ => true
  | .sei => false
  | .adcAbsY _ => false
  | .ply => false
  | .jmpAbsIndX _ => false
  | .adcAbsX _ => false
  | .rorAbsX _ => false
  | .bbr7 _ _ => true
  | .bra _ => false
  | .staZpIndX _ => false
  | .styZp _ => false
  | .staZp _ => false
  | .stxZp _ => false
  | .smb0 _ => true
  | .dey => false
  | .bitImm _ => false
  | .txa => false
  | .styAbs _ => false
  | .staAbs _ => false
  | .stxAbs _ => false
  | .bbs0 _ _ => true
  | .bcc _ => false
  | .staZpIndY _ => false
  | .staZpInd _ => false
  | .styZpX _ => false
  | .staZpX _ => false
  | .stxZpY _ => false
  | .smb1 _ => true
  | .tya => false
  | .staAbsY _ => false
  | .txs => false
  | .stzAbs _ => false
  | .staAbsX _ => false
  | .stzAbsX _ => false
  | .bbs1 _ _ => true
  | .ldyImm _ => false
  | .ldaZpIndX _ => false
  | .ldxImm _ => false
  | .ldyZp _ => false
  | .ldaZp _ => false
  | .ldxZp _ => false
  | .smb2 _ => true
  | .tay => false
  | .ldaImm _ => false
  | .tax => false
  | .ldyAbs _ => false
  | .ldaAbs _ => false
  | .ldxAbs _ => false
  | .bbs2 _ _ => true
  | .bcs _ => false
  | .ldaZpIndY _ => false
  | .ldaZpInd _ => false
  | .ldyZpX _ => false
  | .ldaZpX _ => false
  | .ldxZpY _ => false
  | .smb3 _ => true
  | .clv => false
  | .ldaAbsY _ => false
  | .tsx => false
  | .ldyAbsX _ => false
  | .ldaAbsX _ => false
  | .ldxAbsY _ => false
  | .bbs3 _ _ => true
  | .cpyImm _ => false
  | .cmpZpIndX _ => false
  | .cpyZp _ => false
  | .cmpZp _ => false
  | .decZp _ => false
  | .smb4 _ => true
  | .iny => false
  | .cmpImm _ => false
  | .dex => false
  | .wai => false
  | .cpyAbs _ => false
  | .cmpAbs _ => false
  | .decAbs _ => false
  | .bbs4 _ _ => true
  | .bne _ => false
  | .cmpZpIndY _ => false
  | .cmpZpInd _ => false
  | .cmpZpX _ => false
  | .decZpX _ => false
  | .smb5 _ => true
  | .cld => false
  | .cmpAbsY _ => false
  | .phx => false
  | .stp => false
  | .cmpAbsX _ => false
  | .decAbsX _ => false
  | .bbs5 _ _ => true
  | .cpxImm _ => false
  | .sbcZpIndX _ => false
  | .cpxZp _ => false
  | .sbcZp _ => false
  | .incZp _ => false
  | .smb6 _ => true
  | .inx => false
  | .sbcImm _ => false
  | .nop => false
  | .cpxAbs _ => false
  | .sbcAbs _ => false
  | .incAbs _ => false
  | .bbs6 _ _ => true
  | .beq _ => false
  | .sbcZpIndY _ => false
  | .sbcZpInd _ => false
  | .sbcZpX _ => false
  | .incZpX _ => false
  | .smb7 _ => true
  | .sed => false
  | .sbcAbsY _ => false
  | .plx => false
  | .sbcAbsX _ => false
  | .incAbsX _ => false
  | .bbs7 _ _ => true

/-- The instruction is tabulated under this configuration (R12, R125, R134). Its operand bytes take every value
(R123), so the type leaves nothing else to check. -/
def Instr.wellFormed (cfg : Config) (i : Instr) : Bool := cfg.rockwellBitOps || !i.isBitOp

end Sys2Proof
end

