-- ==== Sys2Proof/Decode.lean ====
section
/-! DEFINITION. The dispatch table, the decoder and the encoder (spec/30_encoding.md R120 to R138). -/

namespace Sys2Proof

open Machine (wordOf loByte hiByte)

/-- How the instruction is built from its operand bytes: the formats F1, F2 and F3 (R121). -/
inductive Form where
  | f1 (i : Instr)
  | f2 (build : Byte → Instr)
  | f3 (build : Byte → Byte → Instr)

/-- F3 of the absolute modes: op1 is the low byte of the address and op2 the high byte (R121, R123). -/
def Form.absolute (build : Word → Instr) : Form := .f3 fun op1 op2 => build (wordOf op2 op1)

/-- The instruction length in bytes (R120, R121). -/
def Form.length : Form → Nat
  | .f1 _ => 1
  | .f2 _ => 2
  | .f3 _ => 3

/-- A dispatch-table entry (R125, R126). -/
structure Descriptor where
  mnemonic : Mnemonic
  mode : Mode
  form : Form

def Descriptor.length (d : Descriptor) : Nat := d.form.length

/-- A tabulated cell of the opcode map. -/
def row (mnemonic : Mnemonic) (mode : Mode) (form : Form) : Option Descriptor := some ⟨mnemonic, mode, form⟩

/-- Row 0x of the opcode map (R130). -/
def opcodeRow0 : List (Option Descriptor) :=
  [row .brk .stack (.f2 .brk),
   row .ora .zpIndX (.f2 .oraZpIndX),
   none,
   none,
   row .tsb .zp (.f2 .tsbZp),
   row .ora .zp (.f2 .oraZp),
   row .asl .zp (.f2 .aslZp),
   row (.rmb 0) .zp (.f2 .rmb0),
   row .php .stack (.f1 .php),
   row .ora .immediate (.f2 .oraImm),
   row .asl .accumulator (.f1 .aslAcc),
   none,
   row .tsb .abs (.absolute .tsbAbs),
   row .ora .abs (.absolute .oraAbs),
   row .asl .abs (.absolute .aslAbs),
   row (.bbr 0) .zpRel (.f3 .bbr0)]

/-- Row 1x of the opcode map (R130). -/
def opcodeRow1 : List (Option Descriptor) :=
  [row .bpl .relative (.f2 .bpl),
   row .ora .zpIndY (.f2 .oraZpIndY),
   row .ora .zpInd (.f2 .oraZpInd),
   none,
   row .trb .zp (.f2 .trbZp),
   row .ora .zpX (.f2 .oraZpX),
   row .asl .zpX (.f2 .aslZpX),
   row (.rmb 1) .zp (.f2 .rmb1),
   row .clc .implied (.f1 .clc),
   row .ora .absY (.absolute .oraAbsY),
   row .inc .accumulator (.f1 .incAcc),
   none,
   row .trb .abs (.absolute .trbAbs),
   row .ora .absX (.absolute .oraAbsX),
   row .asl .absX (.absolute .aslAbsX),
   row (.bbr 1) .zpRel (.f3 .bbr1)]

/-- Row 2x of the opcode map (R130). -/
def opcodeRow2 : List (Option Descriptor) :=
  [row .jsr .abs (.absolute .jsr),
   row .and .zpIndX (.f2 .andZpIndX),
   none,
   none,
   row .bit .zp (.f2 .bitZp),
   row .and .zp (.f2 .andZp),
   row .rol .zp (.f2 .rolZp),
   row (.rmb 2) .zp (.f2 .rmb2),
   row .plp .stack (.f1 .plp),
   row .and .immediate (.f2 .andImm),
   row .rol .accumulator (.f1 .rolAcc),
   none,
   row .bit .abs (.absolute .bitAbs),
   row .and .abs (.absolute .andAbs),
   row .rol .abs (.absolute .rolAbs),
   row (.bbr 2) .zpRel (.f3 .bbr2)]

/-- Row 3x of the opcode map (R130). -/
def opcodeRow3 : List (Option Descriptor) :=
  [row .bmi .relative (.f2 .bmi),
   row .and .zpIndY (.f2 .andZpIndY),
   row .and .zpInd (.f2 .andZpInd),
   none,
   row .bit .zpX (.f2 .bitZpX),
   row .and .zpX (.f2 .andZpX),
   row .rol .zpX (.f2 .rolZpX),
   row (.rmb 3) .zp (.f2 .rmb3),
   row .sec .implied (.f1 .sec),
   row .and .absY (.absolute .andAbsY),
   row .dec .accumulator (.f1 .decAcc),
   none,
   row .bit .absX (.absolute .bitAbsX),
   row .and .absX (.absolute .andAbsX),
   row .rol .absX (.absolute .rolAbsX),
   row (.bbr 3) .zpRel (.f3 .bbr3)]

/-- Row 4x of the opcode map (R130). -/
def opcodeRow4 : List (Option Descriptor) :=
  [row .rti .stack (.f1 .rti),
   row .eor .zpIndX (.f2 .eorZpIndX),
   none,
   none,
   none,
   row .eor .zp (.f2 .eorZp),
   row .lsr .zp (.f2 .lsrZp),
   row (.rmb 4) .zp (.f2 .rmb4),
   row .pha .stack (.f1 .pha),
   row .eor .immediate (.f2 .eorImm),
   row .lsr .accumulator (.f1 .lsrAcc),
   none,
   row .jmp .abs (.absolute .jmpAbs),
   row .eor .abs (.absolute .eorAbs),
   row .lsr .abs (.absolute .lsrAbs),
   row (.bbr 4) .zpRel (.f3 .bbr4)]

/-- Row 5x of the opcode map (R130). -/
def opcodeRow5 : List (Option Descriptor) :=
  [row .bvc .relative (.f2 .bvc),
   row .eor .zpIndY (.f2 .eorZpIndY),
   row .eor .zpInd (.f2 .eorZpInd),
   none,
   none,
   row .eor .zpX (.f2 .eorZpX),
   row .lsr .zpX (.f2 .lsrZpX),
   row (.rmb 5) .zp (.f2 .rmb5),
   row .cli .implied (.f1 .cli),
   row .eor .absY (.absolute .eorAbsY),
   row .phy .stack (.f1 .phy),
   none,
   none,
   row .eor .absX (.absolute .eorAbsX),
   row .lsr .absX (.absolute .lsrAbsX),
   row (.bbr 5) .zpRel (.f3 .bbr5)]

/-- Row 6x of the opcode map (R130). -/
def opcodeRow6 : List (Option Descriptor) :=
  [row .rts .stack (.f1 .rts),
   row .adc .zpIndX (.f2 .adcZpIndX),
   none,
   none,
   row .stz .zp (.f2 .stzZp),
   row .adc .zp (.f2 .adcZp),
   row .ror .zp (.f2 .rorZp),
   row (.rmb 6) .zp (.f2 .rmb6),
   row .pla .stack (.f1 .pla),
   row .adc .immediate (.f2 .adcImm),
   row .ror .accumulator (.f1 .rorAcc),
   none,
   row .jmp .absInd (.absolute .jmpAbsInd),
   row .adc .abs (.absolute .adcAbs),
   row .ror .abs (.absolute .rorAbs),
   row (.bbr 6) .zpRel (.f3 .bbr6)]

/-- Row 7x of the opcode map (R130). -/
def opcodeRow7 : List (Option Descriptor) :=
  [row .bvs .relative (.f2 .bvs),
   row .adc .zpIndY (.f2 .adcZpIndY),
   row .adc .zpInd (.f2 .adcZpInd),
   none,
   row .stz .zpX (.f2 .stzZpX),
   row .adc .zpX (.f2 .adcZpX),
   row .ror .zpX (.f2 .rorZpX),
   row (.rmb 7) .zp (.f2 .rmb7),
   row .sei .implied (.f1 .sei),
   row .adc .absY (.absolute .adcAbsY),
   row .ply .stack (.f1 .ply),
   none,
   row .jmp .absIndX (.absolute .jmpAbsIndX),
   row .adc .absX (.absolute .adcAbsX),
   row .ror .absX (.absolute .rorAbsX),
   row (.bbr 7) .zpRel (.f3 .bbr7)]

/-- Row 8x of the opcode map (R130). -/
def opcodeRow8 : List (Option Descriptor) :=
  [row .bra .relative (.f2 .bra),
   row .sta .zpIndX (.f2 .staZpIndX),
   none,
   none,
   row .sty .zp (.f2 .styZp),
   row .sta .zp (.f2 .staZp),
   row .stx .zp (.f2 .stxZp),
   row (.smb 0) .zp (.f2 .smb0),
   row .dey .implied (.f1 .dey),
   row .bit .immediate (.f2 .bitImm),
   row .txa .implied (.f1 .txa),
   none,
   row .sty .abs (.absolute .styAbs),
   row .sta .abs (.absolute .staAbs),
   row .stx .abs (.absolute .stxAbs),
   row (.bbs 0) .zpRel (.f3 .bbs0)]

/-- Row 9x of the opcode map (R130). -/
def opcodeRow9 : List (Option Descriptor) :=
  [row .bcc .relative (.f2 .bcc),
   row .sta .zpIndY (.f2 .staZpIndY),
   row .sta .zpInd (.f2 .staZpInd),
   none,
   row .sty .zpX (.f2 .styZpX),
   row .sta .zpX (.f2 .staZpX),
   row .stx .zpY (.f2 .stxZpY),
   row (.smb 1) .zp (.f2 .smb1),
   row .tya .implied (.f1 .tya),
   row .sta .absY (.absolute .staAbsY),
   row .txs .implied (.f1 .txs),
   none,
   row .stz .abs (.absolute .stzAbs),
   row .sta .absX (.absolute .staAbsX),
   row .stz .absX (.absolute .stzAbsX),
   row (.bbs 1) .zpRel (.f3 .bbs1)]

/-- Row Ax of the opcode map (R130). -/
def opcodeRowA : List (Option Descriptor) :=
  [row .ldy .immediate (.f2 .ldyImm),
   row .lda .zpIndX (.f2 .ldaZpIndX),
   row .ldx .immediate (.f2 .ldxImm),
   none,
   row .ldy .zp (.f2 .ldyZp),
   row .lda .zp (.f2 .ldaZp),
   row .ldx .zp (.f2 .ldxZp),
   row (.smb 2) .zp (.f2 .smb2),
   row .tay .implied (.f1 .tay),
   row .lda .immediate (.f2 .ldaImm),
   row .tax .implied (.f1 .tax),
   none,
   row .ldy .abs (.absolute .ldyAbs),
   row .lda .abs (.absolute .ldaAbs),
   row .ldx .abs (.absolute .ldxAbs),
   row (.bbs 2) .zpRel (.f3 .bbs2)]

/-- Row Bx of the opcode map (R130). -/
def opcodeRowB : List (Option Descriptor) :=
  [row .bcs .relative (.f2 .bcs),
   row .lda .zpIndY (.f2 .ldaZpIndY),
   row .lda .zpInd (.f2 .ldaZpInd),
   none,
   row .ldy .zpX (.f2 .ldyZpX),
   row .lda .zpX (.f2 .ldaZpX),
   row .ldx .zpY (.f2 .ldxZpY),
   row (.smb 3) .zp (.f2 .smb3),
   row .clv .implied (.f1 .clv),
   row .lda .absY (.absolute .ldaAbsY),
   row .tsx .implied (.f1 .tsx),
   none,
   row .ldy .absX (.absolute .ldyAbsX),
   row .lda .absX (.absolute .ldaAbsX),
   row .ldx .absY (.absolute .ldxAbsY),
   row (.bbs 3) .zpRel (.f3 .bbs3)]

/-- Row Cx of the opcode map (R130). -/
def opcodeRowC : List (Option Descriptor) :=
  [row .cpy .immediate (.f2 .cpyImm),
   row .cmp .zpIndX (.f2 .cmpZpIndX),
   none,
   none,
   row .cpy .zp (.f2 .cpyZp),
   row .cmp .zp (.f2 .cmpZp),
   row .dec .zp (.f2 .decZp),
   row (.smb 4) .zp (.f2 .smb4),
   row .iny .implied (.f1 .iny),
   row .cmp .immediate (.f2 .cmpImm),
   row .dex .implied (.f1 .dex),
   row .wai .implied (.f1 .wai),
   row .cpy .abs (.absolute .cpyAbs),
   row .cmp .abs (.absolute .cmpAbs),
   row .dec .abs (.absolute .decAbs),
   row (.bbs 4) .zpRel (.f3 .bbs4)]

/-- Row Dx of the opcode map (R130). -/
def opcodeRowD : List (Option Descriptor) :=
  [row .bne .relative (.f2 .bne),
   row .cmp .zpIndY (.f2 .cmpZpIndY),
   row .cmp .zpInd (.f2 .cmpZpInd),
   none,
   none,
   row .cmp .zpX (.f2 .cmpZpX),
   row .dec .zpX (.f2 .decZpX),
   row (.smb 5) .zp (.f2 .smb5),
   row .cld .implied (.f1 .cld),
   row .cmp .absY (.absolute .cmpAbsY),
   row .phx .stack (.f1 .phx),
   row .stp .implied (.f1 .stp),
   none,
   row .cmp .absX (.absolute .cmpAbsX),
   row .dec .absX (.absolute .decAbsX),
   row (.bbs 5) .zpRel (.f3 .bbs5)]

/-- Row Ex of the opcode map (R130). -/
def opcodeRowE : List (Option Descriptor) :=
  [row .cpx .immediate (.f2 .cpxImm),
   row .sbc .zpIndX (.f2 .sbcZpIndX),
   none,
   none,
   row .cpx .zp (.f2 .cpxZp),
   row .sbc .zp (.f2 .sbcZp),
   row .inc .zp (.f2 .incZp),
   row (.smb 6) .zp (.f2 .smb6),
   row .inx .implied (.f1 .inx),
   row .sbc .immediate (.f2 .sbcImm),
   row .nop .implied (.f1 .nop),
   none,
   row .cpx .abs (.absolute .cpxAbs),
   row .sbc .abs (.absolute .sbcAbs),
   row .inc .abs (.absolute .incAbs),
   row (.bbs 6) .zpRel (.f3 .bbs6)]

/-- Row Fx of the opcode map (R130). -/
def opcodeRowF : List (Option Descriptor) :=
  [row .beq .relative (.f2 .beq),
   row .sbc .zpIndY (.f2 .sbcZpIndY),
   row .sbc .zpInd (.f2 .sbcZpInd),
   none,
   none,
   row .sbc .zpX (.f2 .sbcZpX),
   row .inc .zpX (.f2 .incZpX),
   row (.smb 7) .zp (.f2 .smb7),
   row .sed .implied (.f1 .sed),
   row .sbc .absY (.absolute .sbcAbsY),
   row .plx .stack (.f1 .plx),
   none,
   none,
   row .sbc .absX (.absolute .sbcAbsX),
   row .inc .absX (.absolute .incAbsX),
   row (.bbs 7) .zpRel (.f3 .bbs7)]

/-- The opcode map of R130: rows by high nibble, columns by low nibble. -/
def opcodeMap : List (List (Option Descriptor)) :=
  [opcodeRow0, opcodeRow1, opcodeRow2, opcodeRow3, opcodeRow4, opcodeRow5, opcodeRow6, opcodeRow7] ++
    [opcodeRow8, opcodeRow9, opcodeRowA, opcodeRowB, opcodeRowC, opcodeRowD, opcodeRowE, opcodeRowF]

/-- BBRn, BBSn, RMBn and SMBn (R12, R134). -/
def Mnemonic.isBitOp : Mnemonic → Bool
  | .bbr _ => true
  | .bbs _ => true
  | .rmb _ => true
  | .smb _ => true
  | _ => false

/-- `Decode(opcode)` of R125: total over the 256 byte values, `none` for an untabulated byte (R133, R134). -/
def lookup (bitOps : Bool) (opcode : Byte) : Option Descriptor :=
  match (opcodeMap.getD (opcode.toNat / 16) []).getD (opcode.toNat % 16) none with
  | none => none
  | some d => if d.mnemonic.isBitOp && !bitOps then none else some d

/-- Why bytes are no instruction. -/
inductive DecodeError where
  /-- The opcode has no table entry (R133, R134). -/
  | unknownOpcode (opcode : Byte)
  /-- There are fewer bytes than the opcode's length (R120). -/
  | truncated
  deriving DecidableEq, Repr

/-- The decoder's answer: an instruction and the bytes after it, or a rejection by name. -/
inductive Decoded where
  | ok (i : Instr) (rest : List Byte)
  | rejected (why : DecodeError)
  deriving DecidableEq, Repr

/-- Build the instruction of a form from the bytes after the opcode (R121, R127). -/
def Form.assemble : Form → List Byte → Decoded
  | .f1 i, rest => .ok i rest
  | .f2 build, op1 :: rest => .ok (build op1) rest
  | .f3 build, op1 :: op2 :: rest => .ok (build op1 op2) rest
  | .f2 _, [] => .rejected .truncated
  | .f3 _, [] => .rejected .truncated
  | .f3 _, [_] => .rejected .truncated

/-- The decoder, total on any bytes. -/
def decode (bitOps : Bool) : List Byte → Decoded
  | [] => .rejected .truncated
  | opcode :: rest =>
    match lookup bitOps opcode with
    | none => .rejected (.unknownOpcode opcode)
    | some d => d.form.assemble rest

/-- The bytes of an instruction (R121, R123, R130): the opcode, then its operand bytes, low byte first. -/
def encode : Instr → List Byte
  | .brk sig => [0x00, sig]
  | .oraZpIndX z => [0x01, z]
  | .tsbZp z => [0x04, z]
  | .oraZp z => [0x05, z]
  | .aslZp z => [0x06, z]
  | .rmb0 z => [0x07, z]
  | .php => [0x08]
  | .oraImm m => [0x09, m]
  | .aslAcc => [0x0A]
  | .tsbAbs a => [0x0C, loByte a, hiByte a]
  | .oraAbs a => [0x0D, loByte a, hiByte a]
  | .aslAbs a => [0x0E, loByte a, hiByte a]
  | .bbr0 z d => [0x0F, z, d]
  | .bpl d => [0x10, d]
  | .oraZpIndY z => [0x11, z]
  | .oraZpInd z => [0x12, z]
  | .trbZp z => [0x14, z]
  | .oraZpX z => [0x15, z]
  | .aslZpX z => [0x16, z]
  | .rmb1 z => [0x17, z]
  | .clc => [0x18]
  | .oraAbsY a => [0x19, loByte a, hiByte a]
  | .incAcc => [0x1A]
  | .trbAbs a => [0x1C, loByte a, hiByte a]
  | .oraAbsX a => [0x1D, loByte a, hiByte a]
  | .aslAbsX a => [0x1E, loByte a, hiByte a]
  | .bbr1 z d => [0x1F, z, d]
  | .jsr a => [0x20, loByte a, hiByte a]
  | .andZpIndX z => [0x21, z]
  | .bitZp z => [0x24, z]
  | .andZp z => [0x25, z]
  | .rolZp z => [0x26, z]
  | .rmb2 z => [0x27, z]
  | .plp => [0x28]
  | .andImm m => [0x29, m]
  | .rolAcc => [0x2A]
  | .bitAbs a => [0x2C, loByte a, hiByte a]
  | .andAbs a => [0x2D, loByte a, hiByte a]
  | .rolAbs a => [0x2E, loByte a, hiByte a]
  | .bbr2 z d => [0x2F, z, d]
  | .bmi d => [0x30, d]
  | .andZpIndY z => [0x31, z]
  | .andZpInd z => [0x32, z]
  | .bitZpX z => [0x34, z]
  | .andZpX z => [0x35, z]
  | .rolZpX z => [0x36, z]
  | .rmb3 z => [0x37, z]
  | .sec => [0x38]
  | .andAbsY a => [0x39, loByte a, hiByte a]
  | .decAcc => [0x3A]
  | .bitAbsX a => [0x3C, loByte a, hiByte a]
  | .andAbsX a => [0x3D, loByte a, hiByte a]
  | .rolAbsX a => [0x3E, loByte a, hiByte a]
  | .bbr3 z d => [0x3F, z, d]
  | .rti => [0x40]
  | .eorZpIndX z => [0x41, z]
  | .eorZp z => [0x45, z]
  | .lsrZp z => [0x46, z]
  | .rmb4 z => [0x47, z]
  | .pha => [0x48]
  | .eorImm m => [0x49, m]
  | .lsrAcc => [0x4A]
  | .jmpAbs a => [0x4C, loByte a, hiByte a]
  | .eorAbs a => [0x4D, loByte a, hiByte a]
  | .lsrAbs a => [0x4E, loByte a, hiByte a]
  | .bbr4 z d => [0x4F, z, d]
  | .bvc d => [0x50, d]
  | .eorZpIndY z => [0x51, z]
  | .eorZpInd z => [0x52, z]
  | .eorZpX z => [0x55, z]
  | .lsrZpX z => [0x56, z]
  | .rmb5 z => [0x57, z]
  | .cli => [0x58]
  | .eorAbsY a => [0x59, loByte a, hiByte a]
  | .phy => [0x5A]
  | .eorAbsX a => [0x5D, loByte a, hiByte a]
  | .lsrAbsX a => [0x5E, loByte a, hiByte a]
  | .bbr5 z d => [0x5F, z, d]
  | .rts => [0x60]
  | .adcZpIndX z => [0x61, z]
  | .stzZp z => [0x64, z]
  | .adcZp z => [0x65, z]
  | .rorZp z => [0x66, z]
  | .rmb6 z => [0x67, z]
  | .pla => [0x68]
  | .adcImm m => [0x69, m]
  | .rorAcc => [0x6A]
  | .jmpAbsInd a => [0x6C, loByte a, hiByte a]
  | .adcAbs a => [0x6D, loByte a, hiByte a]
  | .rorAbs a => [0x6E, loByte a, hiByte a]
  | .bbr6 z d => [0x6F, z, d]
  | .bvs d => [0x70, d]
  | .adcZpIndY z => [0x71, z]
  | .adcZpInd z => [0x72, z]
  | .stzZpX z => [0x74, z]
  | .adcZpX z => [0x75, z]
  | .rorZpX z => [0x76, z]
  | .rmb7 z => [0x77, z]
  | .sei => [0x78]
  | .adcAbsY a => [0x79, loByte a, hiByte a]
  | .ply => [0x7A]
  | .jmpAbsIndX a => [0x7C, loByte a, hiByte a]
  | .adcAbsX a => [0x7D, loByte a, hiByte a]
  | .rorAbsX a => [0x7E, loByte a, hiByte a]
  | .bbr7 z d => [0x7F, z, d]
  | .bra d => [0x80, d]
  | .staZpIndX z => [0x81, z]
  | .styZp z => [0x84, z]
  | .staZp z => [0x85, z]
  | .stxZp z => [0x86, z]
  | .smb0 z => [0x87, z]
  | .dey => [0x88]
  | .bitImm m => [0x89, m]
  | .txa => [0x8A]
  | .styAbs a => [0x8C, loByte a, hiByte a]
  | .staAbs a => [0x8D, loByte a, hiByte a]
  | .stxAbs a => [0x8E, loByte a, hiByte a]
  | .bbs0 z d => [0x8F, z, d]
  | .bcc d => [0x90, d]
  | .staZpIndY z => [0x91, z]
  | .staZpInd z => [0x92, z]
  | .styZpX z => [0x94, z]
  | .staZpX z => [0x95, z]
  | .stxZpY z => [0x96, z]
  | .smb1 z => [0x97, z]
  | .tya => [0x98]
  | .staAbsY a => [0x99, loByte a, hiByte a]
  | .txs => [0x9A]
  | .stzAbs a => [0x9C, loByte a, hiByte a]
  | .staAbsX a => [0x9D, loByte a, hiByte a]
  | .stzAbsX a => [0x9E, loByte a, hiByte a]
  | .bbs1 z d => [0x9F, z, d]
  | .ldyImm m => [0xA0, m]
  | .ldaZpIndX z => [0xA1, z]
  | .ldxImm m => [0xA2, m]
  | .ldyZp z => [0xA4, z]
  | .ldaZp z => [0xA5, z]
  | .ldxZp z => [0xA6, z]
  | .smb2 z => [0xA7, z]
  | .tay => [0xA8]
  | .ldaImm m => [0xA9, m]
  | .tax => [0xAA]
  | .ldyAbs a => [0xAC, loByte a, hiByte a]
  | .ldaAbs a => [0xAD, loByte a, hiByte a]
  | .ldxAbs a => [0xAE, loByte a, hiByte a]
  | .bbs2 z d => [0xAF, z, d]
  | .bcs d => [0xB0, d]
  | .ldaZpIndY z => [0xB1, z]
  | .ldaZpInd z => [0xB2, z]
  | .ldyZpX z => [0xB4, z]
  | .ldaZpX z => [0xB5, z]
  | .ldxZpY z => [0xB6, z]
  | .smb3 z => [0xB7, z]
  | .clv => [0xB8]
  | .ldaAbsY a => [0xB9, loByte a, hiByte a]
  | .tsx => [0xBA]
  | .ldyAbsX a => [0xBC, loByte a, hiByte a]
  | .ldaAbsX a => [0xBD, loByte a, hiByte a]
  | .ldxAbsY a => [0xBE, loByte a, hiByte a]
  | .bbs3 z d => [0xBF, z, d]
  | .cpyImm m => [0xC0, m]
  | .cmpZpIndX z => [0xC1, z]
  | .cpyZp z => [0xC4, z]
  | .cmpZp z => [0xC5, z]
  | .decZp z => [0xC6, z]
  | .smb4 z => [0xC7, z]
  | .iny => [0xC8]
  | .cmpImm m => [0xC9, m]
  | .dex => [0xCA]
  | .wai => [0xCB]
  | .cpyAbs a => [0xCC, loByte a, hiByte a]
  | .cmpAbs a => [0xCD, loByte a, hiByte a]
  | .decAbs a => [0xCE, loByte a, hiByte a]
  | .bbs4 z d => [0xCF, z, d]
  | .bne d => [0xD0, d]
  | .cmpZpIndY z => [0xD1, z]
  | .cmpZpInd z => [0xD2, z]
  | .cmpZpX z => [0xD5, z]
  | .decZpX z => [0xD6, z]
  | .smb5 z => [0xD7, z]
  | .cld => [0xD8]
  | .cmpAbsY a => [0xD9, loByte a, hiByte a]
  | .phx => [0xDA]
  | .stp => [0xDB]
  | .cmpAbsX a => [0xDD, loByte a, hiByte a]
  | .decAbsX a => [0xDE, loByte a, hiByte a]
  | .bbs5 z d => [0xDF, z, d]
  | .cpxImm m => [0xE0, m]
  | .sbcZpIndX z => [0xE1, z]
  | .cpxZp z => [0xE4, z]
  | .sbcZp z => [0xE5, z]
  | .incZp z => [0xE6, z]
  | .smb6 z => [0xE7, z]
  | .inx => [0xE8]
  | .sbcImm m => [0xE9, m]
  | .nop => [0xEA]
  | .cpxAbs a => [0xEC, loByte a, hiByte a]
  | .sbcAbs a => [0xED, loByte a, hiByte a]
  | .incAbs a => [0xEE, loByte a, hiByte a]
  | .bbs6 z d => [0xEF, z, d]
  | .beq d => [0xF0, d]
  | .sbcZpIndY z => [0xF1, z]
  | .sbcZpInd z => [0xF2, z]
  | .sbcZpX z => [0xF5, z]
  | .incZpX z => [0xF6, z]
  | .smb7 z => [0xF7, z]
  | .sed => [0xF8]
  | .sbcAbsY a => [0xF9, loByte a, hiByte a]
  | .plx => [0xFA]
  | .sbcAbsX a => [0xFD, loByte a, hiByte a]
  | .incAbsX a => [0xFE, loByte a, hiByte a]
  | .bbs7 z d => [0xFF, z, d]

/-- The operation and the resolved addressing mode of each instruction (R126, R131, R168). -/
def Instr.operation : Instr → Operation
  | .brk sig => .brk sig
  | .oraZpIndX z => .read .ora (.mem (.zpIndX z))
  | .tsbZp z => .modify .tsb (.zp z)
  | .oraZp z => .read .ora (.mem (.zp z))
  | .aslZp z => .modify .asl (.zp z)
  | .rmb0 z => .modify (.rmb 0) (.zp z)
  | .php => .push .php
  | .oraImm m => .read .ora (.imm m)
  | .aslAcc => .accumulator .asl
  | .tsbAbs a => .modify .tsb (.abs a)
  | .oraAbs a => .read .ora (.mem (.abs a))
  | .aslAbs a => .modify .asl (.abs a)
  | .bbr0 z d => .branchBit 0 false z d
  | .bpl d => .branch .bpl d
  | .oraZpIndY z => .read .ora (.mem (.zpIndY z))
  | .oraZpInd z => .read .ora (.mem (.zpInd z))
  | .trbZp z => .modify .trb (.zp z)
  | .oraZpX z => .read .ora (.mem (.zpX z))
  | .aslZpX z => .modify .asl (.zpX z)
  | .rmb1 z => .modify (.rmb 1) (.zp z)
  | .clc => .flag .clc
  | .oraAbsY a => .read .ora (.mem (.absY a))
  | .incAcc => .accumulator .inc
  | .trbAbs a => .modify .trb (.abs a)
  | .oraAbsX a => .read .ora (.mem (.absX a))
  | .aslAbsX a => .modify .asl (.absX a)
  | .bbr1 z d => .branchBit 1 false z d
  | .jsr a => .jsr a
  | .andZpIndX z => .read .and (.mem (.zpIndX z))
  | .bitZp z => .read .bit (.mem (.zp z))
  | .andZp z => .read .and (.mem (.zp z))
  | .rolZp z => .modify .rol (.zp z)
  | .rmb2 z => .modify (.rmb 2) (.zp z)
  | .plp => .pull .plp
  | .andImm m => .read .and (.imm m)
  | .rolAcc => .accumulator .rol
  | .bitAbs a => .read .bit (.mem (.abs a))
  | .andAbs a => .read .and (.mem (.abs a))
  | .rolAbs a => .modify .rol (.abs a)
  | .bbr2 z d => .branchBit 2 false z d
  | .bmi d => .branch .bmi d
  | .andZpIndY z => .read .and (.mem (.zpIndY z))
  | .andZpInd z => .read .and (.mem (.zpInd z))
  | .bitZpX z => .read .bit (.mem (.zpX z))
  | .andZpX z => .read .and (.mem (.zpX z))
  | .rolZpX z => .modify .rol (.zpX z)
  | .rmb3 z => .modify (.rmb 3) (.zp z)
  | .sec => .flag .sec
  | .andAbsY a => .read .and (.mem (.absY a))
  | .decAcc => .accumulator .dec
  | .bitAbsX a => .read .bit (.mem (.absX a))
  | .andAbsX a => .read .and (.mem (.absX a))
  | .rolAbsX a => .modify .rol (.absX a)
  | .bbr3 z d => .branchBit 3 false z d
  | .rti => .rti
  | .eorZpIndX z => .read .eor (.mem (.zpIndX z))
  | .eorZp z => .read .eor (.mem (.zp z))
  | .lsrZp z => .modify .lsr (.zp z)
  | .rmb4 z => .modify (.rmb 4) (.zp z)
  | .pha => .push .pha
  | .eorImm m => .read .eor (.imm m)
  | .lsrAcc => .accumulator .lsr
  | .jmpAbs a => .jmp a
  | .eorAbs a => .read .eor (.mem (.abs a))
  | .lsrAbs a => .modify .lsr (.abs a)
  | .bbr4 z d => .branchBit 4 false z d
  | .bvc d => .branch .bvc d
  | .eorZpIndY z => .read .eor (.mem (.zpIndY z))
  | .eorZpInd z => .read .eor (.mem (.zpInd z))
  | .eorZpX z => .read .eor (.mem (.zpX z))
  | .lsrZpX z => .modify .lsr (.zpX z)
  | .rmb5 z => .modify (.rmb 5) (.zp z)
  | .cli => .flag .cli
  | .eorAbsY a => .read .eor (.mem (.absY a))
  | .phy => .push .phy
  | .eorAbsX a => .read .eor (.mem (.absX a))
  | .lsrAbsX a => .modify .lsr (.absX a)
  | .bbr5 z d => .branchBit 5 false z d
  | .rts => .rts
  | .adcZpIndX z => .read .adc (.mem (.zpIndX z))
  | .stzZp z => .write .stz (.zp z)
  | .adcZp z => .read .adc (.mem (.zp z))
  | .rorZp z => .modify .ror (.zp z)
  | .rmb6 z => .modify (.rmb 6) (.zp z)
  | .pla => .pull .pla
  | .adcImm m => .read .adc (.imm m)
  | .rorAcc => .accumulator .ror
  | .jmpAbsInd a => .jmpInd a
  | .adcAbs a => .read .adc (.mem (.abs a))
  | .rorAbs a => .modify .ror (.abs a)
  | .bbr6 z d => .branchBit 6 false z d
  | .bvs d => .branch .bvs d
  | .adcZpIndY z => .read .adc (.mem (.zpIndY z))
  | .adcZpInd z => .read .adc (.mem (.zpInd z))
  | .stzZpX z => .write .stz (.zpX z)
  | .adcZpX z => .read .adc (.mem (.zpX z))
  | .rorZpX z => .modify .ror (.zpX z)
  | .rmb7 z => .modify (.rmb 7) (.zp z)
  | .sei => .flag .sei
  | .adcAbsY a => .read .adc (.mem (.absY a))
  | .ply => .pull .ply
  | .jmpAbsIndX a => .jmpIndX a
  | .adcAbsX a => .read .adc (.mem (.absX a))
  | .rorAbsX a => .modify .ror (.absX a)
  | .bbr7 z d => .branchBit 7 false z d
  | .bra d => .branch .bra d
  | .staZpIndX z => .write .sta (.zpIndX z)
  | .styZp z => .write .sty (.zp z)
  | .staZp z => .write .sta (.zp z)
  | .stxZp z => .write .stx (.zp z)
  | .smb0 z => .modify (.smb 0) (.zp z)
  | .dey => .register .dey
  | .bitImm m => .read .bit (.imm m)
  | .txa => .register .txa
  | .styAbs a => .write .sty (.abs a)
  | .staAbs a => .write .sta (.abs a)
  | .stxAbs a => .write .stx (.abs a)
  | .bbs0 z d => .branchBit 0 true z d
  | .bcc d => .branch .bcc d
  | .staZpIndY z => .write .sta (.zpIndY z)
  | .staZpInd z => .write .sta (.zpInd z)
  | .styZpX z => .write .sty (.zpX z)
  | .staZpX z => .write .sta (.zpX z)
  | .stxZpY z => .write .stx (.zpY z)
  | .smb1 z => .modify (.smb 1) (.zp z)
  | .tya => .register .tya
  | .staAbsY a => .write .sta (.absY a)
  | .txs => .register .txs
  | .stzAbs a => .write .stz (.abs a)
  | .staAbsX a => .write .sta (.absX a)
  | .stzAbsX a => .write .stz (.absX a)
  | .bbs1 z d => .branchBit 1 true z d
  | .ldyImm m => .read .ldy (.imm m)
  | .ldaZpIndX z => .read .lda (.mem (.zpIndX z))
  | .ldxImm m => .read .ldx (.imm m)
  | .ldyZp z => .read .ldy (.mem (.zp z))
  | .ldaZp z => .read .lda (.mem (.zp z))
  | .ldxZp z => .read .ldx (.mem (.zp z))
  | .smb2 z => .modify (.smb 2) (.zp z)
  | .tay => .register .tay
  | .ldaImm m => .read .lda (.imm m)
  | .tax => .register .tax
  | .ldyAbs a => .read .ldy (.mem (.abs a))
  | .ldaAbs a => .read .lda (.mem (.abs a))
  | .ldxAbs a => .read .ldx (.mem (.abs a))
  | .bbs2 z d => .branchBit 2 true z d
  | .bcs d => .branch .bcs d
  | .ldaZpIndY z => .read .lda (.mem (.zpIndY z))
  | .ldaZpInd z => .read .lda (.mem (.zpInd z))
  | .ldyZpX z => .read .ldy (.mem (.zpX z))
  | .ldaZpX z => .read .lda (.mem (.zpX z))
  | .ldxZpY z => .read .ldx (.mem (.zpY z))
  | .smb3 z => .modify (.smb 3) (.zp z)
  | .clv => .flag .clv
  | .ldaAbsY a => .read .lda (.mem (.absY a))
  | .tsx => .register .tsx
  | .ldyAbsX a => .read .ldy (.mem (.absX a))
  | .ldaAbsX a => .read .lda (.mem (.absX a))
  | .ldxAbsY a => .read .ldx (.mem (.absY a))
  | .bbs3 z d => .branchBit 3 true z d
  | .cpyImm m => .read .cpy (.imm m)
  | .cmpZpIndX z => .read .cmp (.mem (.zpIndX z))
  | .cpyZp z => .read .cpy (.mem (.zp z))
  | .cmpZp z => .read .cmp (.mem (.zp z))
  | .decZp z => .modify .dec (.zp z)
  | .smb4 z => .modify (.smb 4) (.zp z)
  | .iny => .register .iny
  | .cmpImm m => .read .cmp (.imm m)
  | .dex => .register .dex
  | .wai => .wai
  | .cpyAbs a => .read .cpy (.mem (.abs a))
  | .cmpAbs a => .read .cmp (.mem (.abs a))
  | .decAbs a => .modify .dec (.abs a)
  | .bbs4 z d => .branchBit 4 true z d
  | .bne d => .branch .bne d
  | .cmpZpIndY z => .read .cmp (.mem (.zpIndY z))
  | .cmpZpInd z => .read .cmp (.mem (.zpInd z))
  | .cmpZpX z => .read .cmp (.mem (.zpX z))
  | .decZpX z => .modify .dec (.zpX z)
  | .smb5 z => .modify (.smb 5) (.zp z)
  | .cld => .flag .cld
  | .cmpAbsY a => .read .cmp (.mem (.absY a))
  | .phx => .push .phx
  | .stp => .stp
  | .cmpAbsX a => .read .cmp (.mem (.absX a))
  | .decAbsX a => .modify .dec (.absX a)
  | .bbs5 z d => .branchBit 5 true z d
  | .cpxImm m => .read .cpx (.imm m)
  | .sbcZpIndX z => .read .sbc (.mem (.zpIndX z))
  | .cpxZp z => .read .cpx (.mem (.zp z))
  | .sbcZp z => .read .sbc (.mem (.zp z))
  | .incZp z => .modify .inc (.zp z)
  | .smb6 z => .modify (.smb 6) (.zp z)
  | .inx => .register .inx
  | .sbcImm m => .read .sbc (.imm m)
  | .nop => .nop
  | .cpxAbs a => .read .cpx (.mem (.abs a))
  | .sbcAbs a => .read .sbc (.mem (.abs a))
  | .incAbs a => .modify .inc (.abs a)
  | .bbs6 z d => .branchBit 6 true z d
  | .beq d => .branch .beq d
  | .sbcZpIndY z => .read .sbc (.mem (.zpIndY z))
  | .sbcZpInd z => .read .sbc (.mem (.zpInd z))
  | .sbcZpX z => .read .sbc (.mem (.zpX z))
  | .incZpX z => .modify .inc (.zpX z)
  | .smb7 z => .modify (.smb 7) (.zp z)
  | .sed => .flag .sed
  | .sbcAbsY a => .read .sbc (.mem (.absY a))
  | .plx => .pull .plx
  | .sbcAbsX a => .read .sbc (.mem (.absX a))
  | .incAbsX a => .modify .inc (.absX a)
  | .bbs7 z d => .branchBit 7 true z d

/-- The opcode byte. -/
def Instr.opcode (i : Instr) : Byte := (encode i).headD 0

/-- The addressing mode of a memory operand (R131). -/
def MemOperand.mode : MemOperand → Mode
  | .zp _ => .zp
  | .zpX _ => .zpX
  | .zpY _ => .zpY
  | .zpIndX _ => .zpIndX
  | .zpIndY _ => .zpIndY
  | .zpInd _ => .zpInd
  | .abs _ => .abs
  | .absX _ => .absX
  | .absY _ => .absY

/-- The addressing mode of a read-class operand (R131). -/
def Source.mode : Source → Mode
  | .imm _ => .immediate
  | .mem o => o.mode

def ReadOp.mnemonic : ReadOp → Mnemonic
  | .lda => .lda
  | .ldx => .ldx
  | .ldy => .ldy
  | .adc => .adc
  | .sbc => .sbc
  | .and => .and
  | .ora => .ora
  | .eor => .eor
  | .cmp => .cmp
  | .cpx => .cpx
  | .cpy => .cpy
  | .bit => .bit

def WriteOp.mnemonic : WriteOp → Mnemonic
  | .sta => .sta
  | .stx => .stx
  | .sty => .sty
  | .stz => .stz

def ModifyOp.mnemonic : ModifyOp → Mnemonic
  | .asl => .asl
  | .lsr => .lsr
  | .rol => .rol
  | .ror => .ror
  | .inc => .inc
  | .dec => .dec
  | .trb => .trb
  | .tsb => .tsb
  | .rmb n => .rmb n
  | .smb n => .smb n

def AccOp.mnemonic : AccOp → Mnemonic
  | .asl => .asl
  | .lsr => .lsr
  | .rol => .rol
  | .ror => .ror
  | .inc => .inc
  | .dec => .dec

def RegisterOp.mnemonic : RegisterOp → Mnemonic
  | .tax => .tax
  | .tay => .tay
  | .txa => .txa
  | .tya => .tya
  | .tsx => .tsx
  | .txs => .txs
  | .inx => .inx
  | .iny => .iny
  | .dex => .dex
  | .dey => .dey

def FlagOp.mnemonic : FlagOp → Mnemonic
  | .clc => .clc
  | .sec => .sec
  | .cli => .cli
  | .sei => .sei
  | .cld => .cld
  | .sed => .sed
  | .clv => .clv

def PushOp.mnemonic : PushOp → Mnemonic
  | .pha => .pha
  | .phx => .phx
  | .phy => .phy
  | .php => .php

def PullOp.mnemonic : PullOp → Mnemonic
  | .pla => .pla
  | .plx => .plx
  | .ply => .ply
  | .plp => .plp

def BranchOp.mnemonic : BranchOp → Mnemonic
  | .bpl => .bpl
  | .bmi => .bmi
  | .bvc => .bvc
  | .bvs => .bvs
  | .bcc => .bcc
  | .bcs => .bcs
  | .bne => .bne
  | .beq => .beq
  | .bra => .bra

/-- The mnemonic of an operation (R126, R132). -/
def Operation.mnemonic : Operation → Mnemonic
  | .read op _ => op.mnemonic
  | .write op _ => op.mnemonic
  | .modify op _ => op.mnemonic
  | .accumulator op => op.mnemonic
  | .register op => op.mnemonic
  | .flag op => op.mnemonic
  | .push op => op.mnemonic
  | .pull op => op.mnemonic
  | .branch op _ => op.mnemonic
  | .branchBit n true _ _ => .bbs n
  | .branchBit n false _ _ => .bbr n
  | .jmp _ => .jmp
  | .jmpInd _ => .jmp
  | .jmpIndX _ => .jmp
  | .jsr _ => .jsr
  | .rts => .rts
  | .rti => .rti
  | .brk _ => .brk
  | .wai => .wai
  | .stp => .stp
  | .nop => .nop

/-- The addressing mode of an operation (R131). -/
def Operation.mode : Operation → Mode
  | .read _ src => src.mode
  | .write _ dst => dst.mode
  | .modify _ dst => dst.mode
  | .accumulator _ => .accumulator
  | .register _ => .implied
  | .flag _ => .implied
  | .push _ => .stack
  | .pull _ => .stack
  | .branch _ _ => .relative
  | .branchBit _ _ _ _ => .zpRel
  | .jmp _ => .abs
  | .jmpInd _ => .absInd
  | .jmpIndX _ => .absIndX
  | .jsr _ => .abs
  | .rts => .stack
  | .rti => .stack
  | .brk _ => .stack
  | .wai => .implied
  | .stp => .implied
  | .nop => .implied

/-- The instruction's length: the number of its bytes (R120). -/
def Instr.length (i : Instr) : Nat := (encode i).length

/-- Byte `k` of a number whose least significant byte is the instruction's first byte. -/
def tableByte (w k : Nat) : Byte := BitVec.ofNat 8 (w / 256 ^ k)

/-- The three bytes a table word stands for: bits above `nbits` are zero. -/
def tableBytes (nbits w : Nat) : List Byte :=
  [tableByte (w % 2 ^ nbits) 0, tableByte (w % 2 ^ nbits) 1, tableByte (w % 2 ^ nbits) 2]

/-- The instruction the decoder reads from a word numbered as spec/opcode_table.json numbers it, under the default
parameters. -/
def decodeTableWord (nbits w : Nat) : Option Instr :=
  match decode Config.standard.rockwellBitOps (tableBytes nbits w) with
  | .ok i _ => some i
  | .rejected _ => none

end Sys2Proof
end

