-- ==== Sys2Proof/Machine/Sequencer.lean ====
section
/-! DEFINITION. The Step sequencer's parts (spec/60_exceptions.md R511, R512, R520): what a Step does, the opcode and
operand fetches, and placing an instruction where the next fetch reads it. Step.lean puts them together. -/

namespace Sys2Proof.Machine

/-- An NMI is serviceable exactly when pending (R511). -/
def State.nmiServiceable (st : State) : Bool := st.nmiPending

/-- An IRQ is serviceable when pending and not masked by I (R511). -/
def State.irqServiceable (st : State) : Bool := st.irqPending && !st.flag .i

/-- WAI with I = 1: a pending IRQ lets the core go on without service (R440, R520). -/
def State.resumes (st : State) : Bool := st.waiting && st.irqPending && st.flag .i && !st.flag .b

/-- Break-halt or waiting (R506, R48). -/
def State.halted (st : State) : Bool := st.flag .b || st.waiting

/-- What one Step does (R520). -/
inductive Action where
  | refuse (why : Refusal)
  | service (e : Entry)
  | execute
  deriving DecidableEq, Repr

/-- The choice at the start of a Step, in the order of R520. -/
def State.action (st : State) : Action :=
  if st.stopped then .refuse .stepWhileStopped
  else if st.stp then .refuse .stepWhileStp
  else if st.halted && !(st.nmiServiceable || st.irqServiceable || st.resumes) then .refuse .stepWhileHalted
  else if st.nmiServiceable then .service .nmi
  else if st.irqServiceable then .service .irq
  else .execute

/-- The latch of a serviced interrupt is cleared before the entry (R520, R530). -/
def State.acknowledge (e : Entry) (st : State) : State :=
  match e with
  | .nmi => st.withNmiPending false
  | .irq => st.withIrqPending false
  | .brk => st

/-- Servicing an interrupt (R520, R530). -/
def State.serviceInterrupt (e : Entry) (st : State) : StepOutcome := ((st.acknowledge e).takeException e).outcome

/-- What the fetch phases give: an instruction and the state after its fetches, or an untabulated byte. -/
inductive Fetched where
  | instr (i : Instr) (st : State)
  | unknown (opcode : Byte) (st : State)
  deriving DecidableEq, Repr

/-- The operand fetches at `pc0 + 1` and `pc0 + 2` modulo 2^16; PC is not written (R36, R520). -/
def fetchOperands (f : Form) (st : State) : Fetched :=
  match f with
  | .f1 i => .instr i st
  | .f2 build =>
    let op1 := st.memRead (st.pc + 1)
    .instr (build op1.1) op1.2
  | .f3 build =>
    let op1 := st.memRead (st.pc + 1)
    let op2 := op1.2.memRead (st.pc + 2)
    .instr (build op1.1 op2.1) op2.2

/-- Phases 1 and 2 of R520: fetch the opcode, look it up, fetch the operands. -/
def State.fetch (st : State) : Fetched :=
  let opcode := st.memRead st.pc
  match lookup st.cfg.rockwellBitOps opcode.1 with
  | none => .unknown opcode.1 opcode.2
  | some d => fetchOperands d.form opcode.2

/-- An untabulated opcode faults after the opcode fetch (R502). -/
def State.unknownOpcode (opcode : Byte) (st : State) : StepOutcome :=
  (Flow.raised (.unknownOpcode opcode st.pc) st).outcome

/-- Store a byte where a Read of `addr` finds it, in RAM or ROM: the load of a program from outside (R91). -/
def State.load (addr : Word) (v : Byte) (st : State) : State :=
  st.withDevices (loadDevices st.cfg (decodeAddress st.cfg.ranges addr) addr v st.devices)

/-- Store bytes at consecutive addresses, modulo 2^16. -/
def State.loadBytes (addr : Word) (bytes : List Byte) (st : State) : State :=
  match bytes with
  | [] => st
  | b :: rest => State.loadBytes (addr + 1) rest (st.load addr b)

end Sys2Proof.Machine
end

