-- ==== Sys2Proof/Machine/Step.lean ====
section
/-! DEFINITION. `Step()` (spec/60_exceptions.md R520). A Step that executes or services answers a next state, also
when a fault ends it (the latched state, R500); a Step the spec refuses is `refused` by the reason of R505, the state
staying as it is. -/

namespace Sys2Proof.Machine

/-- The execute phase: fetch, then the instruction's meaning (R520). -/
def executeNext (s : State) : Host.Outcome State Fault Refusal :=
  match s.fetch with
  | .instr i s' => exec i s'
  | .unknown opcode s' => s'.unknownOpcode opcode

/-- One Step (R520). Executing clears `waiting`, which is set here only when the core resumes past a WAI. -/
def step (s : State) : Host.Outcome State Fault Refusal :=
  match s.action with
  | .refuse why => .refused why
  | .service e => s.serviceInterrupt e
  | .execute => executeNext (s.withWaiting false)

/-- The instruction whose bits are `w` placed at PC, where the next Step fetches it. -/
def State.withFetchWord (s : State) (nbits w : Nat) : State := s.loadBytes s.pc (tableBytes nbits w)

end Sys2Proof.Machine
end

