-- ==== Sys2Proof/Machine/HostPort.lean ====
section
/-! DEFINITION. The host interface around the core (spec/60_exceptions.md R507, R508, R510, R540 to R542,
spec/70_reset_and_hazards.md R560 to R565, spec/20_memory.md R89, R91): every host command, the interrupt request of
an asynchronous device (R97), Run, and the load that makes a launch state. -/

namespace Sys2Proof.Machine

/-- The registers and latches of `Reset()` (R560), before the vector is read. -/
def State.resetRegisters (st : State) : State :=
  { st with
    a := st.cfg.resetRegs.a
    x := st.cfg.resetRegs.x
    y := st.cfg.resetRegs.y
    s := 0xFF
    p := resetStatus st.cfg.resetRegs
    stopped := false
    faultReason := none
    waiting := false
    stp := false
    nmiPending := false
    irqPending := false
    ticks := 0 }

/-- `Reset()` (R560): the two vector reads are not ticked and cannot fault; device memories, the map, the breakpoints
and the run mode stay (R561). -/
def State.hostReset (st : State) : State :=
  let lo := st.resetRegisters.busRead 0xFFFC
  let hi := lo.2.busRead 0xFFFD
  hi.2.withPc (wordOf hi.1 lo.1)

/-- `SendIRQ()` (R510, R542). -/
def State.sendIrq (st : State) : State := st.withIrqPending true

/-- `SendNMI()` (R510, R542). -/
def State.sendNmi (st : State) : State := st.withNmiPending true

/-- A step of the asynchronous agent of the device on `chip`, first half: it mutates the device's own state, which is
all it may change beside `irq_pending` (R97 (a)). -/
def State.deviceStep (chip : ChipSelect) (choice : Nat) (st : State) : State :=
  st.withDevices (st.devices.map fun d => d.ownStep chip choice)

/-- A step of an asynchronous device agent, second half: it publishes an interrupt request, which sets `irq_pending`
(R97 (b), R510). -/
def State.deviceIrq (st : State) : State := st.withIrqPending true

/-- Cancel: `run_mode <- stop` (R542). -/
def State.cancel (st : State) : State := { st with runMode := .stop }

/-- The breakpoint set with one address more (R54, R540). -/
def insertBreakpoint (a : Word) : List Word → List Word
  | [] => [a]
  | b :: rest => if a < b then a :: b :: rest else if a = b then b :: rest else b :: insertBreakpoint a rest

/-- Breakpoint add (R542). -/
def State.addBreakpoint (a : Word) (st : State) : State := { st with breakpoints := insertBreakpoint a st.breakpoints }

/-- Breakpoint remove (R542). -/
def State.removeBreakpoint (a : Word) (st : State) : State :=
  { st with breakpoints := st.breakpoints.filter fun b => decide (b ≠ a) }

/-- `ReadMemoryLocation(a)`: one Read transaction, not ticked (R89). -/
def State.hostRead (a : Word) (st : State) : Byte × State := st.busRead a

/-- `WriteMemoryLocation(a, v)`: one Write transaction, not ticked; a write into read-only memory latches
`WriteProtect` like a core write (R89, R503). -/
def State.hostWrite (a : Word) (v : Byte) (st : State) : State :=
  match st.busWrite a v with
  | .go st' => st'
  | .raised reason st' => st'.latch reason

/-- The Step command: a refused Step changes nothing but publishes its error event (R505, R507). -/
def State.stepCommand (st : State) : State :=
  match step st with
  | .next st' => st'
  | .refused why => st.publish (.refused why st.pc)
  | .fault error => st.publish (.configError error)

/-! ## Run -/

/-- How a Run ends (R541). -/
inductive RunEnd where
  | cancelled
  | atBreakpoint
  | refused (why : Refusal)
  | faulted (reason : Option FaultReason)
  | stopped
  | break
  | configError (error : Fault)
  deriving DecidableEq, Repr

/-- What other threads may do between two iterations of a Run: the host's cancel and interrupt requests, and the two
things a device agent does (R97, R521, R541, R542). -/
inductive Asynchronous where
  | cancel | sendIrq | sendNmi | deviceIrq
  | deviceStep (chip : ChipSelect) (choice : Nat)
  deriving DecidableEq, Repr

def Asynchronous.apply (e : Asynchronous) (st : State) : State :=
  match e with
  | .cancel => st.cancel
  | .sendIrq => st.sendIrq
  | .sendNmi => st.sendNmi
  | .deviceIrq => st.deviceIrq
  | .deviceStep chip choice => st.deviceStep chip choice

/-- The checks after a Step that was not refused, in the order of R541. -/
def runCheck (st : State) : Option RunEnd :=
  if st.stopped then some (.faulted st.faultReason)
  else if st.stp then some .stopped
  else if st.flag .b then some .break
  else none

/-- The loop of R541. `env` lists, for each iteration, what happens asynchronously just before it; Run has no limit of
its own, so when `env` is used up the Run is still going (`none`). -/
def runLoop (env : List (List Asynchronous)) (first : Bool) (st : State) : Option RunEnd × State :=
  match env with
  | [] => (none, st)
  | now :: later =>
    let st := now.foldl (fun st e => e.apply st) st
    if st.runMode = .stop then (some .cancelled, st)
    else if !first && st.breakpoints.contains st.pc then (some .atBreakpoint, st.publish (.breakpoint st.pc))
    else
      match step st with
      | .refused why => (some (.refused why), st.publish (.refused why st.pc))
      | .fault error => (some (.configError error), st.publish (.configError error))
      | .next st' =>
        match runCheck st' with
        | some e => (some e, st')
        | none => runLoop later false st'

/-- `Run()` (R541). -/
def State.runCommand (env : List (List Asynchronous)) (st : State) : Option RunEnd × State :=
  runLoop env true { st with runMode := .run }

/-! ## Configuration and load -/

/-- A firmware image and the placement option of R91. -/
structure RomImage where
  bytes : List Byte
  offset : Bool
  deriving DecidableEq, Repr

/-- Put bytes at consecutive array indexes. -/
def flashFrom (fill : Byte) (index : Nat) (bytes : List Byte) (cells : Cells) : Cells :=
  match bytes with
  | [] => cells
  | b :: rest => flashFrom fill (index + 1) rest (Cells.write fill index b cells)

/-- The ROM flash of R91: with `offset` the image is right-justified; a too large image, or for the 32K variant one
that is not exactly 32768 bytes, is a configuration error and nothing is loaded (R508). The spec speaks of the flash of a
ROM only and names no error for another device; that `flash` takes any device is the model's DESIGN CHOICE (log entry
19). -/
def flash (cfg : Config) (image : RomImage) (d : Device) : Except Fault Device :=
  if image.bytes.length > d.attr.capacity then .error .romImageTooLarge
  else if d.attr.rom32k && decide (image.bytes.length ≠ 32768) then .error .romImageSizeMismatch
  else
    let base := if image.offset then d.attr.capacity - image.bytes.length else 0
    .ok { d with cells := flashFrom (cfg.fill d.attr.mappedIo) base image.bytes d.cells }

/-- One attached device with the image to flash into it, if any. The device's array before the flash is part of the
launch: for a ROM by R91, for another device by DESIGN CHOICE (log entry 19). -/
structure Attachment where
  device : Device
  image : Option RomImage
  deriving DecidableEq, Repr

/-- Configure and flash every device in subscription order, or stop with the first error (R91, R508). -/
def attachAll (cfg : Config) : List Attachment → Except Fault (List Device)
  | [] => .ok []
  | at_ :: rest =>
    if rangeWithinCapacity cfg.ranges at_.device then
      match at_.image with
      | none =>
        match attachAll cfg rest with
        | .ok ds => .ok (at_.device :: ds)
        | .error e => .error e
      | some image =>
        match flash cfg image at_.device with
        | .error e => .error e
        | .ok d =>
          match attachAll cfg rest with
          | .ok ds => .ok (d :: ds)
          | .error e => .error e
    else .error .rangeExceedsCapacity

/-- Configure and flash (R542): the parameters, the map and the flashed devices are put on the bus and nothing else of the
state changes; or the configuration error with which the emulator does not start (R508). -/
def configure (cfg : Config) (attachments : List Attachment) (st : State) : Except Fault State :=
  match attachAll cfg attachments with
  | .ok devices => .ok { st with cfg := cfg, devices := devices }
  | .error e => .error e

/-- The configure-and-flash command as the host sees it: a configuration error is published as one event and changes
nothing else, `stopped` included (R507, R508). -/
def State.configureAndFlash (cfg : Config) (attachments : List Attachment) (st : State) : State :=
  match configure cfg attachments st with
  | .ok st' => st'
  | .error e => st.publish (.configError e)

/-- A launch state: Reset over a configured and flashed bus (R565), or the configuration error that keeps the emulator
from starting (R508). The spec gives no register values before the first Reset (R565), and `hostReset` overwrites every
one. -/
def launch (cfg : Config) (attachments : List Attachment) : Host.Outcome State Fault Refusal :=
  match configure cfg attachments State.reset with
  | .ok st => .next st.hostReset
  | .error e => .fault e

/-! ## The commands together -/

/-- The rows of R542 that the host sends to a started machine, and what a device agent does (R97). Configure and flash is
`State.configureAndFlash`: the map never changes after load (R90). -/
inductive Command where
  | reset
  | step
  | run (env : List (List Asynchronous))
  | cancel
  | sendIrq
  | sendNmi
  | deviceIrq
  | deviceStep (chip : ChipSelect) (choice : Nat)
  | readMemory (a : Word)
  | writeMemory (a : Word) (v : Byte)
  | addBreakpoint (a : Word)
  | removeBreakpoint (a : Word)
  deriving DecidableEq, Repr

/-- The state a command leaves; "a model gives the host no other move" (R542). -/
def Command.perform (c : Command) (st : State) : State :=
  match c with
  | .reset => st.hostReset
  | .step => st.stepCommand
  | .run env => (st.runCommand env).2
  | .cancel => st.cancel
  | .sendIrq => st.sendIrq
  | .sendNmi => st.sendNmi
  | .deviceIrq => st.deviceIrq
  | .deviceStep chip choice => st.deviceStep chip choice
  | .readMemory a => (st.hostRead a).2
  | .writeMemory a v => st.hostWrite a v
  | .addBreakpoint a => st.addBreakpoint a
  | .removeBreakpoint a => st.removeBreakpoint a

/-- The registers as the host inspects them (R542): SP is the 16-bit `0x0100 | S`. -/
structure RegisterDisplay where
  a : Byte
  x : Byte
  y : Byte
  sp : Word
  pc : Word
  p : Byte
  stopped : Bool
  waiting : Bool
  stp : Bool
  nmiPending : Bool
  irqPending : Bool
  ticks : Nat
  deriving DecidableEq, Repr

/-- Inspect registers (R542). -/
def State.inspect (st : State) : RegisterDisplay :=
  ⟨st.a, st.x, st.y, st.spAddr, st.pc, st.p, st.stopped, st.waiting, st.stp, st.nmiPending, st.irqPending, st.ticks⟩

end Sys2Proof.Machine
end

