-- ==== Sys2Proof/Safety.lean ====
section
/-! DEFINITION. The invariants a run keeps and what counts as a clean Step, in the terms the claims use. -/

namespace Sys2Proof.Machine

/-- P bit 5 reads 1 (R43). -/
def State.unusedBitSet (st : State) : Prop := st.flag .u = true

/-- Every device's array is in the canonical form (Memory.wf). -/
def State.memoryWf (st : State) : Prop := ∀ d ∈ st.devices, d.wf st.cfg = true

/-- Break-halt masks IRQ, unless a fault has stopped the core inside a BRK (R506; log entry 9). -/
def State.breakMasksIrq (st : State) : Prop := st.stopped = false → st.flag .b = true → st.flag .i = true

/-- A recorded reason exactly while stopped (R47, R500). -/
def State.reasonWhileStopped (st : State) : Prop := st.faultReason.isSome = st.stopped

/-- The breakpoint set is listed rising, without repeats (R54). -/
def State.breakpointsSorted (st : State) : Prop := st.breakpoints.Pairwise (· < ·)

/-- The invariant of the machine. -/
structure State.Inv (st : State) : Prop where
  unused : st.unusedBitSet
  memory : st.memoryWf
  breakHalt : st.breakMasksIrq
  reason : st.reasonWhileStopped
  sorted : st.breakpointsSorted

/-- The machine runs its next instruction at the next Step (R520). -/
def State.ready (st : State) : Prop := st.action = .execute

/-- No fault has been latched and no event published between the two states (R500, R507). -/
def unfaulted (st t : State) : Prop := t.stopped = st.stopped ∧ t.faultReason = st.faultReason ∧ t.events = st.events

/-- N and Z as `SetNZ(v)` leaves them (R22). -/
def nzOf (t : State) (v : Byte) : Prop := t.flag .n = v.getLsbD 7 ∧ t.flag .z = decide (v = 0)

/-- The PC that `SetPC(target)` writes where it raises no fault (R24). -/
def State.pcAfter (st : State) (target : Int) : Word :=
  match st.cfg.pcOverflow with
  | .wrap => BitVec.ofInt 16 target
  | .clamp => if target > 0xFFFF then 0xFFFF else BitVec.ofInt 16 target

/-- `SetPC(target)` raises no fault (R24, R504). -/
def State.pcFits (st : State) (target : Int) : Prop := st.cfg.pcOverflow = .clamp → 0 ≤ target

/-- `t` has the PC of the next instruction in sequence, `len` bytes on (R25). -/
def advances (st t : State) (len : Nat) : Prop := t.pc = st.pcAfter ((st.pc.toNat : Int) + len)

/-- The bus address of stack offset `k` (R72). -/
def stackAddr (k : Byte) : Word := 0x0100 ||| zext k

/-- The address is answered by RAM: some selected device, and each selected device a readable and writable array that
holds the address (R85). -/
def State.isRam (st : State) (addr : Word) : Prop :=
  (∃ d ∈ st.devices, d.selected (decodeAddress st.cfg.ranges addr) = true) ∧
    ∀ d ∈ st.devices, d.selected (decodeAddress st.cfg.ranges addr) = true →
      d.attr.mode = .readWrite ∧ d.attr.mappedIo.isIo = false ∧ (d.index addr).isSome = true

/-- No I/O device is selected at the address, so a Read of it has no side effect (R94). -/
def State.noIo (st : State) (addr : Word) : Prop :=
  ∀ d ∈ st.devices, d.selected (decodeAddress st.cfg.ranges addr) = true → d.attr.mappedIo.isIo = false

/-- The memory map is well formed (R78). -/
def State.mapWellFormed (st : State) : Bool := mapWf st.cfg.ranges st.devices

end Sys2Proof.Machine
end

