-- ==== Sys2Proof/Certificates/Slice0/Obligations.lean ====
section
/-! DEFINITION. The statements for the provers. The tables of `Sys2Proof.Spec` say, for every operation at once, what
it may write and how many transactions it makes; each statement's docstring names the rules of spec/ it rests on. -/

namespace Sys2Proof.Spec

open Sys2Proof.Machine

/-- The instructions that write A (the list of R31, and the accumulator forms). -/
def writesA : Operation → Bool
  | .read op _ => op ∈ [.lda, .adc, .sbc, .and, .ora, .eor]
  | .write _ _ => false
  | .modify _ _ => false
  | .accumulator _ => true
  | .register op => op ∈ [.txa, .tya]
  | .flag _ => false
  | .push _ => false
  | .pull op => op == .pla
  | .branch _ _ => false
  | .branchBit _ _ _ _ => false
  | .jmp _ => false
  | .jmpInd _ => false
  | .jmpIndX _ => false
  | .jsr _ => false
  | .rts => false
  | .rti => false
  | .brk _ => false
  | .wai => false
  | .stp => false
  | .nop => false

/-- The instructions that write X (the list of R32). -/
def writesX : Operation → Bool
  | .read op _ => op == .ldx
  | .write _ _ => false
  | .modify _ _ => false
  | .accumulator _ => false
  | .register op => op ∈ [.tax, .tsx, .inx, .dex]
  | .flag _ => false
  | .push _ => false
  | .pull op => op == .plx
  | .branch _ _ => false
  | .branchBit _ _ _ _ => false
  | .jmp _ => false
  | .jmpInd _ => false
  | .jmpIndX _ => false
  | .jsr _ => false
  | .rts => false
  | .rti => false
  | .brk _ => false
  | .wai => false
  | .stp => false
  | .nop => false

/-- The instructions that write Y (the list of R33). -/
def writesY : Operation → Bool
  | .read op _ => op == .ldy
  | .write _ _ => false
  | .modify _ _ => false
  | .accumulator _ => false
  | .register op => op ∈ [.tay, .iny, .dey]
  | .flag _ => false
  | .push _ => false
  | .pull op => op == .ply
  | .branch _ _ => false
  | .branchBit _ _ _ _ => false
  | .jmp _ => false
  | .jmpInd _ => false
  | .jmpIndX _ => false
  | .jsr _ => false
  | .rts => false
  | .rti => false
  | .brk _ => false
  | .wai => false
  | .stp => false
  | .nop => false

/-- The instructions that write S: pushes, pulls, TXS, and the calls and returns through the stack (R34). -/
def writesS : Operation → Bool
  | .read _ _ => false
  | .write _ _ => false
  | .modify _ _ => false
  | .accumulator _ => false
  | .register op => op == .txs
  | .flag _ => false
  | .push _ => true
  | .pull _ => true
  | .branch _ _ => false
  | .branchBit _ _ _ _ => false
  | .jmp _ => false
  | .jmpInd _ => false
  | .jmpIndX _ => false
  | .jsr _ => true
  | .rts => true
  | .rti => true
  | .brk _ => true
  | .wai => false
  | .stp => false
  | .nop => false

/-- The flags a read-class operation writes; BIT in immediate mode writes Z alone (R343). -/
def readWritesFlag (op : ReadOp) (src : Source) (f : Flag) : Bool :=
  match op with
  | .adc => f ∈ [.n, .v, .z, .c]
  | .sbc => f ∈ [.n, .v, .z, .c]
  | .cmp => f ∈ [.n, .z, .c]
  | .cpx => f ∈ [.n, .z, .c]
  | .cpy => f ∈ [.n, .z, .c]
  | .bit =>
    match src with
    | .imm _ => f == .z
    | .mem _ => f ∈ [.n, .v, .z]
  | .lda => f ∈ [.n, .z]
  | .ldx => f ∈ [.n, .z]
  | .ldy => f ∈ [.n, .z]
  | .and => f ∈ [.n, .z]
  | .ora => f ∈ [.n, .z]
  | .eor => f ∈ [.n, .z]

/-- The flags a read-modify-write operation writes. -/
def modifyWritesFlag (op : ModifyOp) (f : Flag) : Bool :=
  match op with
  | .asl => f ∈ [.n, .z, .c]
  | .lsr => f ∈ [.n, .z, .c]
  | .rol => f ∈ [.n, .z, .c]
  | .ror => f ∈ [.n, .z, .c]
  | .inc => f ∈ [.n, .z]
  | .dec => f ∈ [.n, .z]
  | .trb => f == .z
  | .tsb => f == .z
  | .rmb _ => false
  | .smb _ => false

/-- The flags an accumulator operation writes. -/
def accWritesFlag (op : AccOp) (f : Flag) : Bool :=
  if op = .inc ∨ op = .dec then f ∈ [.n, .z] else f ∈ [.n, .z, .c]

/-- The flag a flag instruction writes. -/
def flagOpFlag : FlagOp → Flag
  | .clc => .c
  | .sec => .c
  | .cli => .i
  | .sei => .i
  | .cld => .d
  | .sed => .d
  | .clv => .v

/-- The flags an operation may write (R38 to R45 and each instruction's own Flags line). -/
def writesFlag (o : Operation) (f : Flag) : Bool :=
  match o with
  | .read op src => readWritesFlag op src f
  | .write _ _ => false
  | .modify op _ => modifyWritesFlag op f
  | .accumulator op => accWritesFlag op f
  | .register op => op != .txs && f ∈ [.n, .z]
  | .flag op => f == flagOpFlag op
  | .push _ => false
  | .pull op => if op = .plp then f != .u else f ∈ [.n, .z]
  | .branch _ _ => false
  | .branchBit _ _ _ _ => false
  | .jmp _ => false
  | .jmpInd _ => false
  | .jmpIndX _ => false
  | .jsr _ => false
  | .rts => false
  | .rti => f != .u
  | .brk _ => f ∈ [.b, .i, .d]
  | .wai => false
  | .stp => false
  | .nop => false

/-- BRK is taken (R430). -/
def brkTaken (s : State) : Bool := !s.flag .i || s.cfg.brkMasked == .hardware

/-- The addresses an operation may store to, from the state it starts in: the effective address of the write and
read-modify-write classes, the stack slots of the pushes (R168, R260 to R263, R311, R430). -/
def storedAt (o : Operation) (s : State) : List Word :=
  match o with
  | .read _ _ => []
  | .write _ dst => [(effectiveAddress dst s).1]
  | .modify _ dst => [(effectiveAddress dst s).1]
  | .accumulator _ => []
  | .register _ => []
  | .flag _ => []
  | .push _ => [stackAddr s.s]
  | .pull _ => []
  | .branch _ _ => []
  | .branchBit _ _ _ _ => []
  | .jmp _ => []
  | .jmpInd _ => []
  | .jmpIndX _ => []
  | .jsr _ => [stackAddr s.s, stackAddr (s.s - 1)]
  | .rts => []
  | .rti => []
  | .brk _ => if brkTaken s then [stackAddr s.s, stackAddr (s.s - 1), stackAddr (s.s - 2)] else []
  | .wai => []
  | .stp => []
  | .nop => []

/-- The register or constant a store writes (R403 to R406). -/
def storedValue (op : WriteOp) (s : State) : Byte :=
  match op with
  | .sta => s.a
  | .stx => s.x
  | .sty => s.y
  | .stz => 0x00

/-- The byte a push writes (R260 to R263). -/
def pushedValue (op : PushOp) (s : State) : Byte :=
  match op with
  | .pha => s.a
  | .phx => s.x
  | .phy => s.y
  | .php => s.p ||| 0x30

/-- The registers A, X and Y are as before. -/
def sameAXY (s t : State) : Prop := t.a = s.a ∧ t.x = s.x ∧ t.y = s.y

/-- The bytes an operation pushes, in order, each one slot below the last (R260 to R263, R311, R430). -/
def pushes (o : Operation) (s : State) : List Byte :=
  match o with
  | .read _ _ => []
  | .write _ _ => []
  | .modify _ _ => []
  | .accumulator _ => []
  | .register _ => []
  | .flag _ => []
  | .push op => [pushedValue op s]
  | .pull _ => []
  | .branch _ _ => []
  | .branchBit _ _ _ _ => []
  | .jmp _ => []
  | .jmpInd _ => []
  | .jmpIndX _ => []
  | .jsr _ => [hiByte (s.pc + 2), loByte (s.pc + 2)]
  | .rts => []
  | .rti => []
  | .brk _ =>
    if brkTaken s then
      [hiByte (s.pc + s.cfg.brkReturnOffset.value), loByte (s.pc + s.cfg.brkReturnOffset.value), s.p ||| 0x30]
    else []
  | .wai => []
  | .stp => []
  | .nop => []

/-- The bytes an IRQ or NMI entry pushes (R530). -/
def entryPushes (s : State) : List Byte := [hiByte s.pc, loByte s.pc, (s.p &&& 0xEF) ||| 0x20]

/-- Push number `k` of `bytes` is the first into a slot that a read-only device answers (R503). -/
def refusedAt (bytes : List Byte) (k : Nat) (s : State) : Prop :=
  k < bytes.length ∧ (∀ j, j < k → s.writable (stackAddr (s.s - BitVec.ofNat 8 j)) = true) ∧
    s.writable (stackAddr (s.s - BitVec.ofNat 8 k)) = false

/-- WriteProtect at `a` is latched and published, and PC stays (R500, R503). -/
def writeProtected (a : Word) (s t : State) : Prop :=
  t.stopped = true ∧ t.faultReason = some (.writeProtect a) ∧ t.events = s.events ++ [.fault (.writeProtect a) s.pc] ∧
    t.pc = s.pc

/-- What push number `k` leaves when it is refused: WriteProtect at its slot, the pushes before it made, S below them,
one tick for each push begun, and no other byte and no other register changed (R20, R500, R503). -/
def pushRefused (bytes : List Byte) (k : Nat) (s t : State) : Prop :=
  writeProtected (stackAddr (s.s - BitVec.ofNat 8 k)) s t ∧ sameAXY s t ∧ t.s = s.s - BitVec.ofNat 8 k ∧
    t.ticks = s.ticks + k + 1 ∧ t.waiting = s.waiting ∧ t.stp = s.stp ∧
    (∀ j v, j < k → bytes[j]? = some v → s.memoryWf → s.isRam (stackAddr (s.s - BitVec.ofNat 8 j)) →
      t.peek (stackAddr (s.s - BitVec.ofNat 8 j)) = some v) ∧
    ∀ a, (∀ j, j < k → a ≠ stackAddr (s.s - BitVec.ofNat 8 j)) → t.peek a = s.peek a

/-- The condition of a relative branch (R281 to R289). -/
def branchTaken (op : BranchOp) (s : State) : Bool :=
  match op with
  | .bpl => s.flag .n == false
  | .bmi => s.flag .n == true
  | .bvc => s.flag .v == false
  | .bvs => s.flag .v == true
  | .bcc => s.flag .c == false
  | .bcs => s.flag .c == true
  | .bne => s.flag .z == false
  | .beq => s.flag .z == true
  | .bra => true

/-- The transactions of a memory operand's addressing mode, fetches included, for a read or a write (R169). -/
def modeTicks : MemOperand → Nat
  | .zp _ | .zpX _ | .zpY _ => 3
  | .zpIndX _ | .zpIndY _ | .zpInd _ => 5
  | .abs _ | .absX _ | .absY _ => 4

/-- The transactions of a read-class operand, fetches included (R169). -/
def sourceTicks : Source → Nat
  | .imm _ => 2
  | .mem o => modeTicks o

/-- Ticks per executed Step (the table of R581). -/
def stepTicks (o : Operation) (s : State) : Nat :=
  match o with
  | .read _ src => sourceTicks src
  | .write _ dst => modeTicks dst
  | .modify _ dst => modeTicks dst + 1
  | .accumulator _ => 1
  | .register _ => 1
  | .flag _ => 1
  | .push _ => 2
  | .pull _ => 2
  | .branch _ _ => 2
  | .branchBit _ _ _ _ => 4
  | .jmp _ => 3
  | .jmpInd _ => 5
  | .jmpIndX _ => 5
  | .jsr _ => 5
  | .rts => 3
  | .rti => 4
  | .brk _ => if brkTaken s then 7 else 2
  | .wai => 1
  | .stp => 1
  | .nop => 1

/-- Both digits of the byte are decimal. -/
def isBcd (b : Byte) : Prop := b.toNat % 16 ≤ 9 ∧ b.toNat / 16 ≤ 9

/-- The number two decimal digits stand for. -/
def bcdValue (b : Byte) : Nat := 10 * (b.toNat / 16) + b.toNat % 16

/-- The 44 untabulated bytes of R133. -/
def untabulated : List Byte :=
  [0x02, 0x03, 0x0B, 0x13, 0x1B, 0x22, 0x23, 0x2B, 0x33, 0x3B, 0x42, 0x43, 0x44, 0x4B, 0x53] ++
    [0x54, 0x5B, 0x5C, 0x62, 0x63, 0x6B, 0x73, 0x7B, 0x82, 0x83, 0x8B, 0x93, 0x9B, 0xA3, 0xAB] ++
    [0xB3, 0xBB, 0xC2, 0xC3, 0xD3, 0xD4, 0xDC, 0xE2, 0xE3, 0xEB, 0xF3, 0xF4, 0xFB, 0xFC]

/-- The bytes of the 32 bit-manipulation opcodes (R134): column 7 and column F of the map. -/
def bitOpByte (b : Byte) : Bool := b.toNat % 16 == 7 || b.toNat % 16 == 15

/-- The flags N, V, Z and C are as before. -/
def sameNVZC (s t : State) : Prop :=
  t.flag .n = s.flag .n ∧ t.flag .v = s.flag .v ∧ t.flag .z = s.flag .z ∧ t.flag .c = s.flag .c

/-- The interrupt a Step services when nothing stops it (R511, R512). -/
def pendingEntry (s : State) : Option Entry :=
  if s.nmiPending then some .nmi else if s.irqPending && !s.flag .i then some .irq else none

end Sys2Proof.Spec

open Sys2Proof Sys2Proof.Machine Sys2Proof.Spec

/-! ## Encoding and decoding -/

/-- Every tabulated instruction, with every operand, is read back from its bytes (R120 to R127, R130). -/
def Obligations.DecodeOfEncodeIsTheInstruction : Prop :=
  ∀ (cfg : Config) (i : Instr) (rest : List Byte), i.wellFormed cfg = true →
    decode cfg.rockwellBitOps (encode i ++ rest) = .ok i rest

/-- What the decoder reads is the one instruction with those bytes, and it is tabulated (R120, R125, R130). -/
def Obligations.DecodedBytesAreTheEncoding : Prop :=
  ∀ (cfg : Config) (bytes : List Byte) (i : Instr) (rest : List Byte),
    decode cfg.rockwellBitOps bytes = .ok i rest → encode i ++ rest = bytes ∧ i.wellFormed cfg = true

/-- Words written out from the opcode map, one per family (R130, R131, R138). -/
def Obligations.SampleWordsDecodeAsTheMapSays : Prop :=
  decode true [0b10101001, 0b00100000] = .ok (.ldaImm 0x20) [] ∧
  decode true [0b01111101, 0x34, 0x12] = .ok (.adcAbsX 0x1234) [] ∧
  decode true [0b01101010] = .ok .rorAcc [] ∧
  decode true [0b00110001, 0x20] = .ok (.andZpIndY 0x20) [] ∧
  decode true [0b10010010, 0x20] = .ok (.staZpInd 0x20) [] ∧
  decode true [0b01001000] = .ok .pha [] ∧
  decode true [0b11010000, 0xFB] = .ok (.bne 0xFB) [] ∧
  decode true [0b00111111, 0x30, 0x04] = .ok (.bbr3 0x30 0x04) [] ∧
  decode true [0b11110111, 0x30] = .ok (.smb7 0x30) [] ∧
  decode true [0b01111100, 0x00, 0x90] = .ok (.jmpAbsIndX 0x9000) [] ∧
  decode true [0b00000000, 0x07] = .ok (.brk 0x07) [] ∧
  decode true [0b00000010] = .rejected (.unknownOpcode 0x02)

/-- The bit number of BBRn, BBSn, RMBn and SMBn is opcode bits 6..4, bit 7 chooses between reset and set, and the low
digit between memory and branch (R124). -/
def Obligations.BitNumberStandsInTheOpcode : Prop :=
  ∀ (i : Instr) (n : Fin 8) (z d : Byte) (want : Bool),
    (i.operation = .branchBit n want z d →
      i.opcode.extractLsb' 4 3 = BitVec.ofNat 3 n ∧ i.opcode.getLsbD 7 = want ∧ i.opcode.extractLsb' 0 4 = 0xF) ∧
    (i.operation = .modify (.rmb n) (.zp z) →
      i.opcode.extractLsb' 4 3 = BitVec.ofNat 3 n ∧ i.opcode.getLsbD 7 = false ∧ i.opcode.extractLsb' 0 4 = 0x7) ∧
    (i.operation = .modify (.smb n) (.zp z) →
      i.opcode.extractLsb' 4 3 = BitVec.ofNat 3 n ∧ i.opcode.getLsbD 7 = true ∧ i.opcode.extractLsb' 0 4 = 0x7)

/-- A ready Step that fetches one of the 44 untabulated bytes, or without `ROCKWELL_BIT_OPS` one of the 32
bit-manipulation bytes, latches UnknownOpcode after the opcode fetch: one tick, PC and every register as before, and
`waiting` cleared where a masked IRQ resumed a WAI (R133, R134, R440, R502, R520). -/
def Obligations.UntabulatedByteLatchesUnknownOpcode : Prop :=
  ∀ (s : State) (b : Byte), s.ready → s.noIo s.pc → s.peek s.pc = some b →
    (b ∈ untabulated ∨ (s.cfg.rockwellBitOps = false ∧ bitOpByte b = true)) →
    step s = .next { s with
      waiting := false
      ticks := s.ticks + 1
      stopped := true
      faultReason := some (.unknownOpcode b s.pc)
      events := s.events ++ [.fault (.unknownOpcode b s.pc) s.pc] }

/-! ## The Step sequencer -/

/-- A ready Step whose bytes at PC decode to an instruction executes it in the state after its fetches: one tick per
byte, PC still at the opcode, `waiting` cleared (R36, R120, R520). -/
def Obligations.StepExecutesTheDecodedInstruction : Prop :=
  ∀ (s : State) (b0 b1 b2 : Byte) (i : Instr) (rest : List Byte), s.ready →
    (∀ k, k < 3 → s.noIo (s.pc + BitVec.ofNat 16 k)) →
    s.peek s.pc = some b0 → s.peek (s.pc + 1) = some b1 → s.peek (s.pc + 2) = some b2 →
    decode s.cfg.rockwellBitOps [b0, b1, b2] = .ok i rest →
    step s = exec i { s with waiting := false, ticks := s.ticks + i.length }

/-- A Step is ready to execute exactly when the core is not stopped, not STP-stopped, nothing is serviceable, and it is
neither in break-halt nor waiting, unless a masked IRQ resumes a WAI (R511, R520). -/
def Obligations.ReadyExactlyWhenNothingHoldsTheStep : Prop :=
  ∀ s : State, s.ready ↔
    s.stopped = false ∧ s.stp = false ∧ s.nmiPending = false ∧ (s.irqPending = true → s.flag .i = true) ∧
      ((s.flag .b = false ∧ s.waiting = false) ∨
        (s.waiting = true ∧ s.irqPending = true ∧ s.flag .i = true ∧ s.flag .b = false))

/-- The three refusals, in their order and with their codes; a refused Step command changes no core state, publishes one
event, and is refused again when repeated (R505; the order and the conditions are R520's). -/
def Obligations.RefusedStepsChangeNothing : Prop :=
  (∀ s : State, s.stopped = true → step s = .refused .stepWhileStopped) ∧
  (∀ s : State, s.stopped = false → s.stp = true → step s = .refused .stepWhileStp) ∧
  (∀ s : State, s.stopped = false → s.stp = false → (s.flag .b = true ∨ s.waiting = true) → s.nmiPending = false →
    (s.irqPending = true → s.flag .i = true) → (s.irqPending = true → s.flag .b = true) →
    step s = .refused .stepWhileHalted) ∧
  (∀ (s : State) (why : Refusal), step s = .refused why →
    s.stepCommand = { s with events := s.events ++ [.refused why s.pc] } ∧ step s.stepCommand = .refused why) ∧
  Refusal.stepWhileStopped.code = some 16 ∧ Refusal.stepWhileStp.code = some 17 ∧ Refusal.stepWhileHalted.code = some 18

/-- No Step ends in one of the load-time errors, none is refused for want of a meaning, and no instruction is refused:
what `exec` answers is always a next state (R500, R505, R508). -/
def Obligations.InstructionsAlwaysAnswerANextState : Prop :=
  (∀ (i : Instr) (s : State), ∃ t, exec i s = .next t) ∧
  (∀ (s : State) (e : Fault), step s ≠ .fault e) ∧
  (∀ (s : State) (why : Refusal), step s = .refused why →
    why = .stepWhileStopped ∨ why = .stepWhileStp ∨ why = .stepWhileHalted)

/-! ## Interrupts -/

/-- IRQ and NMI entry (R511, R512, R530): NMI first, whatever I holds; the current PC and the copy of P with bit 4 clear
are pushed; I is set, D, B and `waiting` cleared; the serviced latch is cleared and the other kept; PC comes from the
vector; five ticks; no instruction is executed and A, X, Y and every other byte stay. -/
def Obligations.InterruptEntryVectorsAndSavesState : Prop :=
  ∀ (s : State) (e : Entry), s.stopped = false → s.stp = false → pendingEntry s = some e →
    s.writable (stackAddr s.s) = true → s.writable (stackAddr (s.s - 1)) = true → s.writable (stackAddr (s.s - 2)) = true →
    ∃ t, step s = .next t ∧ unfaulted s t ∧ sameAXY s t ∧ sameNVZC s t ∧ t.s = s.s - 3 ∧
      t.flag .i = true ∧ t.flag .d = false ∧ t.flag .b = false ∧ t.waiting = false ∧ t.stp = false ∧
      t.ticks = s.ticks + 5 ∧
      (e = .nmi → t.nmiPending = false ∧ t.irqPending = s.irqPending) ∧
      (e = .irq → t.irqPending = false ∧ t.nmiPending = s.nmiPending) ∧
      (∀ lo hi, s.peek e.vector = some lo → s.peek (e.vector + 1) = some hi → t.pc = wordOf hi lo) ∧
      (s.memoryWf → s.isRam (stackAddr s.s) → t.peek (stackAddr s.s) = some (hiByte s.pc)) ∧
      (s.memoryWf → s.isRam (stackAddr (s.s - 1)) → t.peek (stackAddr (s.s - 1)) = some (loByte s.pc)) ∧
      (s.memoryWf → s.isRam (stackAddr (s.s - 2)) →
        t.peek (stackAddr (s.s - 2)) = some ((s.p &&& 0xEF) ||| 0x20)) ∧
      (∀ a, a ≠ stackAddr s.s → a ≠ stackAddr (s.s - 1) → a ≠ stackAddr (s.s - 2) → t.peek a = s.peek a)

/-! ## Invariants and whole-machine frames -/

/-- The reset state satisfies the invariant. -/
def Obligations.ResetSatisfiesTheInvariant : Prop := State.reset.Inv

/-- Every Step keeps the invariant: U reads 1, the arrays stay canonical, an unfaulted break-halt masks IRQ, a reason is
recorded exactly while stopped, the breakpoint set stays in order (R43, R47, R54, R506). -/
def Obligations.StepKeepsTheInvariant : Prop := ∀ s t : State, s.Inv → step s = .next t → t.Inv

/-- So does every host command, a whole Run with any asynchronous requests among them (R541, R542, R560). -/
def Obligations.EveryHostCommandKeepsTheInvariant : Prop := ∀ (c : Command) (s : State), s.Inv → (c.perform s).Inv

/-- No Step changes the parameters, the devices' attributes and order, the breakpoint set or the run mode, so a map that
is well formed stays so (R54, R55, R90). An asynchronous device agent changes its own device's state and `irq_pending`,
and no byte of RAM or ROM, no other device and nothing of the core (R97). -/
def Obligations.StepsNeverChangeTheConfiguration : Prop :=
  (∀ s t : State, step s = .next t →
    t.cfg = s.cfg ∧ t.devices.map (·.attr) = s.devices.map (·.attr) ∧ t.breakpoints = s.breakpoints ∧
      t.runMode = s.runMode ∧ t.mapWellFormed = s.mapWellFormed) ∧
  (∀ (s : State) (chip : ChipSelect) (choice : Nat),
    (s.deviceStep chip choice = { s with devices := (s.deviceStep chip choice).devices }) ∧
      (s.deviceStep chip choice).devices.map (·.attr) = s.devices.map (·.attr) ∧
      (∀ a, (s.deviceStep chip choice).peek a = s.peek a) ∧
      (∀ (k : Nat) (d : Device), s.devices[k]? = some d → (d.attr.mappedIo ≠ chip ∨ d.attr.mappedIo.isIo = false) →
        (s.deviceStep chip choice).devices[k]? = some d) ∧
      s.deviceIrq = { s with irqPending := true })

/-- No instruction outside the lists of R31 to R34 changes A, X, Y or S. -/
def Obligations.OnlyListedInstructionsWriteTheRegisters : Prop :=
  ∀ (i : Instr) (s t : State), exec i s = .next t →
    (writesA i.operation = false → t.a = s.a) ∧ (writesX i.operation = false → t.x = s.x) ∧
      (writesY i.operation = false → t.y = s.y) ∧ (writesS i.operation = false → t.s = s.s)

/-- No instruction changes a flag its rule does not name, and U stays 1 (R38 to R45). -/
def Obligations.OnlyNamedFlagsChange : Prop :=
  ∀ (i : Instr) (s t : State) (f : Flag), exec i s = .next t → writesFlag i.operation f = false →
    (f ≠ .u → t.flag f = s.flag f) ∧ (f = .u → s.flag .u = true → t.flag .u = true)

/-- Only WAI sets `waiting` and only STP sets `stp`; no instruction touches an interrupt latch; the fault latch and the
events change only by a fault raised in the instruction, and then PC stays (R47 to R52, R500, R507). -/
def Obligations.LatchesChangeOnlyAsNamed : Prop :=
  ∀ (i : Instr) (s t : State), exec i s = .next t →
    (i.operation ≠ .wai → t.waiting = s.waiting) ∧ (i.operation ≠ .stp → t.stp = s.stp) ∧
      t.nmiPending = s.nmiPending ∧ t.irqPending = s.irqPending ∧
      (unfaulted s t ∨
        ∃ r, t.stopped = true ∧ t.faultReason = some r ∧ t.pc = s.pc ∧ t.events = s.events ++ [.fault r s.pc])

/-- Every byte of memory that an instruction does not store to reads as before; an instruction of no storing class
leaves all of memory (R95, R168). -/
def Obligations.OnlyStoredBytesChange : Prop :=
  ∀ (i : Instr) (s t : State) (a : Word), exec i s = .next t → a ∉ storedAt i.operation s → t.peek a = s.peek a

/-- The ticks of an executed Step that raises no fault are those of the table (R169, R581). -/
def Obligations.TicksPerInstruction : Prop :=
  ∀ (i : Instr) (s t : State), exec i s = .next t → unfaulted s t → t.ticks + i.length = s.ticks + stepTicks i.operation s

/-! ## Addressing modes -/

/-- The effective address of every mode (R156 to R164). -/
def Obligations.EffectiveAddresses : Prop :=
  ∀ (s : State) (z : Byte) (a : Word),
    (effectiveAddress (.zp z) s).1.toNat = z.toNat ∧
    (effectiveAddress (.zpX z) s).1.toNat = (z.toNat + s.x.toNat) % 256 ∧
    (effectiveAddress (.zpY z) s).1.toNat = (z.toNat + s.y.toNat) % 256 ∧
    (effectiveAddress (.abs a) s).1 = a ∧
    (effectiveAddress (.absX a) s).1.toNat = (a.toNat + s.x.toNat) % 65536 ∧
    (effectiveAddress (.absY a) s).1.toNat = (a.toNat + s.y.toNat) % 65536 ∧
    (∀ lo hi, s.peek (zext z) = some lo → s.peek (zext (z + 1)) = some hi →
      (effectiveAddress (.zpInd z) s).1.toNat = 256 * hi.toNat + lo.toNat ∧
      (effectiveAddress (.zpIndY z) s).1.toNat = (256 * hi.toNat + lo.toNat + s.y.toNat) % 65536) ∧
    (∀ lo hi, s.peek (zext (z + s.x)) = some lo → s.peek (zext (z + s.x + 1)) = some hi →
      (effectiveAddress (.zpIndX z) s).1.toNat = 256 * hi.toNat + lo.toNat)

/-- The operand of the read class is the immediate byte, or the byte a Read of the effective address gives; resolving and
reading it writes no register and no memory (R94, R150, R153, R168). -/
def Obligations.OperandsAreReadWithoutAnyWrite : Prop :=
  (∀ (s : State) (m : Byte), readSource (.imm m) s = (m, s)) ∧
  (∀ (s : State) (o : MemOperand) (v : Byte), s.peek (effectiveAddress o s).1 = some v → (readSource (.mem o) s).1 = v) ∧
  (∀ (s : State) (o : MemOperand) (a : Word),
    (effectiveAddress o s).2 =
      { s with ticks := (effectiveAddress o s).2.ticks, devices := (effectiveAddress o s).2.devices } ∧
    (readSource (.mem o) s).2 =
      { s with ticks := (readSource (.mem o) s).2.ticks, devices := (readSource (.mem o) s).2.devices } ∧
    (effectiveAddress o s).2.peek a = s.peek a ∧ (readSource (.mem o) s).2.peek a = s.peek a)

/-! ## Memory and bus -/

/-- A RAM byte reads as it was last written, and a write changes no other byte (R85, R96). -/
def Obligations.RamReadsTheLastWrite : Prop :=
  ∀ (s : State) (a : Word) (v : Byte), s.memoryWf → s.isRam a →
    ∃ t, s.memWrite a v = .go t ∧ t.peek a = some v ∧ (t.memRead a).1 = v ∧ ∀ b, b ≠ a → t.peek b = s.peek b

/-- Where no enabled device answers, in particular at an address of no configured range or of a chip-select with no
attached device, a read gives `OPEN_BUS_VALUE` and a write changes no device and is no fault (R87, R88). -/
def Obligations.UnmappedAddressesReadOpenBus : Prop :=
  (∀ (s : State) (a : Word) (v : Byte),
    (∀ d ∈ s.devices, d.attr.enabled = true → d.attr.mappedIo ∉ decodeAddress s.cfg.ranges a) →
    (s.memRead a).1 = s.cfg.openBusValue ∧ (s.memRead a).2 = { s with ticks := s.ticks + 1 } ∧
      s.memWrite a v = .go { s with ticks := s.ticks + 1 }) ∧
  Config.standard.openBusValue = 0x00

/-- On a well-formed map at most one chip-select is decoded and at most one device is selected (R78, R82, R83). -/
def Obligations.AtMostOneDeviceAnswers : Prop :=
  ∀ (s : State) (a : Word), s.mapWellFormed = true →
    (decodeAddress s.cfg.ranges a).length ≤ 1 ∧
      (s.devices.filter fun d => d.selected (decodeAddress s.cfg.ranges a)).length ≤ 1

/-- On a well-formed map, every core write into an enabled device whose mode is Read latches WriteProtect, its tick
counted, PC and A, X, Y kept and the refused byte not stored (R81, R86, R500, R503): the Write of a store; the Write of a
read-modify-write, where a shift has already put the bit shifted out in C, TRB and TSB have already written Z, and no
other flag changes; a push of PHA, PHX, PHY, PHP, JSR and BRK, where the pushes before it stay and BRK has set B before
its third; and a push of an IRQ or NMI entry, whose latch is already cleared (R530). What has happened before the
refused write follows the order of the rules' pseudocode (log entry 15). -/
def Obligations.StoreIntoReadOnlyMemoryFaults : Prop :=
  (∀ (i : Instr) (op : WriteOp) (dst : MemOperand) (s : State), i.operation = .write op dst → s.mapWellFormed = true →
    s.writable (effectiveAddress dst s).1 = false →
    ∃ t, exec i s = .next t ∧ writeProtected (effectiveAddress dst s).1 s t ∧ sameAXY s t ∧ t.s = s.s ∧ t.p = s.p ∧
      t.ticks + i.length = s.ticks + modeTicks dst ∧ ∀ a, t.peek a = s.peek a) ∧
  (∀ (i : Instr) (op : ModifyOp) (dst : MemOperand) (s : State), i.operation = .modify op dst → s.mapWellFormed = true →
    s.writable (effectiveAddress dst s).1 = false →
    ∃ t, exec i s = .next t ∧ writeProtected (effectiveAddress dst s).1 s t ∧ sameAXY s t ∧ t.s = s.s ∧
      (op ∈ [.asl, .rol] → t.flag .c = (readTarget dst s).m.getLsbD 7) ∧
      (op ∈ [.lsr, .ror] → t.flag .c = (readTarget dst s).m.getLsbD 0) ∧
      (op ∈ [.trb, .tsb] → t.flag .z = decide (s.a &&& (readTarget dst s).m = 0)) ∧
      (op ∉ [.asl, .rol, .lsr, .ror] → t.flag .c = s.flag .c) ∧ (op ∉ [.trb, .tsb] → t.flag .z = s.flag .z) ∧
      (∀ f, f ≠ .c → f ≠ .z → f ≠ .u → t.flag f = s.flag f) ∧ (s.flag .u = true → t.flag .u = true) ∧
      t.ticks + i.length = s.ticks + modeTicks dst + 1 ∧ ∀ a, t.peek a = s.peek a) ∧
  (∀ (i : Instr) (s : State) (k : Nat), s.mapWellFormed = true → refusedAt (pushes i.operation s) k s →
    ∃ t, exec i s = .next t ∧ pushRefused (pushes i.operation s) k s t ∧ t.p = (if k = 2 then s.p ||| 0x30 else s.p) ∧
      t.nmiPending = s.nmiPending ∧ t.irqPending = s.irqPending) ∧
  (∀ (s : State) (e : Entry) (k : Nat), s.stopped = false → s.stp = false → pendingEntry s = some e →
    s.mapWellFormed = true → refusedAt (entryPushes s) k s →
    ∃ t, step s = .next t ∧ pushRefused (entryPushes s) k s t ∧ t.p = s.p ∧
      (e = .nmi → t.nmiPending = false ∧ t.irqPending = s.irqPending) ∧
      (e = .irq → t.irqPending = false ∧ t.nmiPending = s.nmiPending))

/-! ## Loads, stores, transfers -/

/-- LDA, LDX and LDY put the operand in the register and set N and Z from it (R400 to R402). -/
def Obligations.LoadsPutTheOperandInTheRegister : Prop :=
  ∀ (i : Instr) (src : Source) (s : State),
    (i.operation = .read .lda src → ∃ t, exec i s = .next t ∧ unfaulted s t ∧ advances s t i.length ∧
      t.a = (readSource src s).1 ∧ nzOf t (readSource src s).1) ∧
    (i.operation = .read .ldx src → ∃ t, exec i s = .next t ∧ unfaulted s t ∧ advances s t i.length ∧
      t.x = (readSource src s).1 ∧ nzOf t (readSource src s).1) ∧
    (i.operation = .read .ldy src → ∃ t, exec i s = .next t ∧ unfaulted s t ∧ advances s t i.length ∧
      t.y = (readSource src s).1 ∧ nzOf t (readSource src s).1)

/-- STA, STX, STY and STZ write the register, or zero, at the effective address (R403 to R406). -/
def Obligations.StoresWriteTheRegister : Prop :=
  ∀ (i : Instr) (op : WriteOp) (dst : MemOperand) (s : State), i.operation = .write op dst →
    s.writable (effectiveAddress dst s).1 = true →
    ∃ t, exec i s = .next t ∧ unfaulted s t ∧ advances s t i.length ∧
      (s.memoryWf → s.isRam (effectiveAddress dst s).1 →
        t.peek (effectiveAddress dst s).1 = some (storedValue op s))

/-- The register transfers; all but TXS set N and Z from the value moved (R407 to R412). -/
def Obligations.TransfersCopyRegisters : Prop :=
  ∀ (i : Instr) (s : State),
    (i.operation = .register .tax → ∃ t, exec i s = .next t ∧ unfaulted s t ∧ advances s t 1 ∧ t.x = s.a ∧ nzOf t s.a) ∧
    (i.operation = .register .tay → ∃ t, exec i s = .next t ∧ unfaulted s t ∧ advances s t 1 ∧ t.y = s.a ∧ nzOf t s.a) ∧
    (i.operation = .register .txa → ∃ t, exec i s = .next t ∧ unfaulted s t ∧ advances s t 1 ∧ t.a = s.x ∧ nzOf t s.x) ∧
    (i.operation = .register .tya → ∃ t, exec i s = .next t ∧ unfaulted s t ∧ advances s t 1 ∧ t.a = s.y ∧ nzOf t s.y) ∧
    (i.operation = .register .tsx → ∃ t, exec i s = .next t ∧ unfaulted s t ∧ advances s t 1 ∧ t.x = s.s ∧ nzOf t s.s) ∧
    (i.operation = .register .txs → ∃ t, exec i s = .next t ∧ unfaulted s t ∧ advances s t 1 ∧ t.s = s.x ∧ t.p = s.p)

/-! ## Arithmetic -/

/-- ADC in binary mode: the widened sum, its carry, the signed overflow, N and Z of the result (R200 to R202). -/
def Obligations.AdcBinary : Prop :=
  ∀ (i : Instr) (src : Source) (s : State), i.operation = .read .adc src → s.flag .d = false →
    ∃ t, exec i s = .next t ∧ unfaulted s t ∧ advances s t i.length ∧
      (let m := (readSource src s).1
       let sum := s.a.toNat + m.toNat + bitNat (s.flag .c)
       let signed := s8 s.a + s8 m + bitNat (s.flag .c)
       t.a.toNat = sum % 256 ∧ t.flag .c = decide (255 < sum) ∧
         t.flag .v = decide (signed < -128 ∨ 127 < signed) ∧ nzOf t t.a)

/-- SBC in binary mode: A - M - (1 - C) modulo 256, C set when there is no borrow, V the signed overflow
(R204, R205). -/
def Obligations.SbcBinary : Prop :=
  ∀ (i : Instr) (src : Source) (s : State), i.operation = .read .sbc src → s.flag .d = false →
    ∃ t, exec i s = .next t ∧ unfaulted s t ∧ advances s t i.length ∧
      (let m := (readSource src s).1
       let diff := (s.a.toNat : Int) - m.toNat - (1 - bitNat (s.flag .c))
       let signed := s8 s.a - s8 m - (1 - bitNat (s.flag .c))
       (t.a.toNat : Int) = diff % 256 ∧ t.flag .c = decide (0 ≤ diff) ∧
         t.flag .v = decide (signed < -128 ∨ 127 < signed) ∧ nzOf t t.a)

/-- ADC with D set under `DECIMAL_MODE = bcd65c02`: the triple of `AddDec`, N and Z of its result; on decimal operands
the result is the decimal sum modulo 100 and C the decimal carry (R200, R203). -/
def Obligations.AdcDecimal : Prop :=
  ∀ (i : Instr) (src : Source) (s : State), i.operation = .read .adc src → s.flag .d = true →
    s.cfg.decimalMode = .bcd65c02 →
    ∃ t, exec i s = .next t ∧ unfaulted s t ∧ advances s t i.length ∧ nzOf t t.a ∧
      t.a = (addDec s.a (readSource src s).1 (s.flag .c)).r ∧
      t.flag .c = (addDec s.a (readSource src s).1 (s.flag .c)).c ∧
      t.flag .v = (addDec s.a (readSource src s).1 (s.flag .c)).v ∧
      (isBcd s.a → isBcd (readSource src s).1 →
        (let sum := bcdValue s.a + bcdValue (readSource src s).1 + bitNat (s.flag .c)
         isBcd t.a ∧ bcdValue t.a = sum % 100 ∧ t.flag .c = decide (100 ≤ sum)))

/-- SBC with D set under `DECIMAL_MODE = bcd65c02`: C and V as in binary mode, N and Z of the result; on decimal operands
the result is the decimal difference modulo 100 (R204, R206). -/
def Obligations.SbcDecimal : Prop :=
  ∀ (i : Instr) (src : Source) (s : State), i.operation = .read .sbc src → s.flag .d = true →
    s.cfg.decimalMode = .bcd65c02 →
    ∃ t, exec i s = .next t ∧ unfaulted s t ∧ advances s t i.length ∧ nzOf t t.a ∧
      (let m := (readSource src s).1
       let diff := (s.a.toNat : Int) - m.toNat - (1 - bitNat (s.flag .c))
       let signed := s8 s.a - s8 m - (1 - bitNat (s.flag .c))
       t.a = (subDec s.a m (s.flag .c)).r ∧ t.flag .c = decide (0 ≤ diff) ∧
         t.flag .v = decide (signed < -128 ∨ 127 < signed) ∧
         (isBcd s.a → isBcd m →
           isBcd t.a ∧ (bcdValue t.a : Int) = ((bcdValue s.a : Int) - bcdValue m - (1 - bitNat (s.flag .c))) % 100))

/-- ADC and SBC with D set under `DECIMAL_MODE = fault` latch NotImplemented after the operand read, with every register
and PC unchanged (R9, R200, R204, R502). -/
def Obligations.DecimalFaultMode : Prop :=
  ∀ (i : Instr) (src : Source) (s : State), i.operation = .read .adc src ∨ i.operation = .read .sbc src →
    s.flag .d = true → s.cfg.decimalMode = .fault →
    ∃ t, exec i s = .next t ∧ t.stopped = true ∧ t.faultReason = some (.notImplemented i.opcode s.pc) ∧
      sameAXY s t ∧ t.s = s.s ∧ t.p = s.p ∧ t.pc = s.pc ∧ t.ticks = (readSource src s).2.ticks

/-- The compares: C when register ≥ operand, Z exactly when they are equal, N bit 7 of the difference; the register
stays (R207 to R210). -/
def Obligations.Compares : Prop :=
  ∀ (i : Instr) (src : Source) (s : State) (reg : Byte),
    (i.operation = .read .cmp src ∧ reg = s.a) ∨ (i.operation = .read .cpx src ∧ reg = s.x) ∨
      (i.operation = .read .cpy src ∧ reg = s.y) →
    ∃ t, exec i s = .next t ∧ unfaulted s t ∧ advances s t i.length ∧ sameAXY s t ∧
      t.flag .c = decide ((readSource src s).1.toNat ≤ reg.toNat) ∧ t.flag .z = decide (reg = (readSource src s).1) ∧
      t.flag .n = (reg - (readSource src s).1).getLsbD 7

/-- Increments and decrements of A, X, Y and memory wrap modulo 256 and set N and Z from the result, in memory from the
byte written back and not from A (R211 to R218). -/
def Obligations.IncrementsAndDecrements : Prop :=
  (∀ (i : Instr) (s : State),
    (i.operation = .accumulator .inc → ∃ t, exec i s = .next t ∧ unfaulted s t ∧ advances s t 1 ∧
      t.a.toNat = (s.a.toNat + 1) % 256 ∧ nzOf t t.a) ∧
    (i.operation = .accumulator .dec → ∃ t, exec i s = .next t ∧ unfaulted s t ∧ advances s t 1 ∧
      t.a.toNat = (s.a.toNat + 255) % 256 ∧ nzOf t t.a) ∧
    (i.operation = .register .inx → ∃ t, exec i s = .next t ∧ unfaulted s t ∧ advances s t 1 ∧
      t.x.toNat = (s.x.toNat + 1) % 256 ∧ nzOf t t.x) ∧
    (i.operation = .register .iny → ∃ t, exec i s = .next t ∧ unfaulted s t ∧ advances s t 1 ∧
      t.y.toNat = (s.y.toNat + 1) % 256 ∧ nzOf t t.y) ∧
    (i.operation = .register .dex → ∃ t, exec i s = .next t ∧ unfaulted s t ∧ advances s t 1 ∧
      t.x.toNat = (s.x.toNat + 255) % 256 ∧ nzOf t t.x) ∧
    (i.operation = .register .dey → ∃ t, exec i s = .next t ∧ unfaulted s t ∧ advances s t 1 ∧
      t.y.toNat = (s.y.toNat + 255) % 256 ∧ nzOf t t.y)) ∧
  (∀ (i : Instr) (dst : MemOperand) (s : State) (r : Byte),
    (i.operation = .modify .inc dst ∧ r.toNat = ((readTarget dst s).m.toNat + 1) % 256) ∨
      (i.operation = .modify .dec dst ∧ r.toNat = ((readTarget dst s).m.toNat + 255) % 256) →
    s.writable (effectiveAddress dst s).1 = true →
    ∃ t, exec i s = .next t ∧ unfaulted s t ∧ advances s t i.length ∧ nzOf t r ∧
      (s.memoryWf → s.isRam (effectiveAddress dst s).1 → t.peek (effectiveAddress dst s).1 = some r))

/-! ## Shifts and rotates -/

/-- One shift or rotate of a byte, bit by bit: the bit shifted out goes to C, the vacated bit is 0 or, in a rotate, the
prior carry (R240 to R243). -/
def Sys2Proof.Spec.shifts (op : AccOp) (v : Byte) (cin : Bool) (r : Byte) (cout : Bool) : Prop :=
  match op with
  | .asl => cout = v.getLsbD 7 ∧ r.getLsbD 0 = false ∧ ∀ k, k < 7 → r.getLsbD (k + 1) = v.getLsbD k
  | .rol => cout = v.getLsbD 7 ∧ r.getLsbD 0 = cin ∧ ∀ k, k < 7 → r.getLsbD (k + 1) = v.getLsbD k
  | .lsr => cout = v.getLsbD 0 ∧ r.getLsbD 7 = false ∧ ∀ k, k < 7 → r.getLsbD k = v.getLsbD (k + 1)
  | .ror => cout = v.getLsbD 0 ∧ r.getLsbD 7 = cin ∧ ∀ k, k < 7 → r.getLsbD k = v.getLsbD (k + 1)
  | .inc => False
  | .dec => False

/-- The shifts and rotates of A (R240 to R243). -/
def Obligations.ShiftsOfTheAccumulator : Prop :=
  ∀ (i : Instr) (op : AccOp) (s : State), i.operation = .accumulator op → op ≠ .inc → op ≠ .dec →
    ∃ t, exec i s = .next t ∧ unfaulted s t ∧ advances s t 1 ∧ nzOf t t.a ∧
      shifts op s.a (s.flag .c) t.a (t.flag .c)

/-- The shifts and rotates of a memory byte (R240 to R243). -/
def Obligations.ShiftsOfMemory : Prop :=
  ∀ (i : Instr) (op : AccOp) (dst : MemOperand) (s : State),
    (i.operation = .modify .asl dst ∧ op = .asl) ∨ (i.operation = .modify .lsr dst ∧ op = .lsr) ∨
      (i.operation = .modify .rol dst ∧ op = .rol) ∨ (i.operation = .modify .ror dst ∧ op = .ror) →
    s.writable (effectiveAddress dst s).1 = true →
    ∃ t r, exec i s = .next t ∧ unfaulted s t ∧ advances s t i.length ∧ nzOf t r ∧
      shifts op (readTarget dst s).m (s.flag .c) r (t.flag .c) ∧
      (s.memoryWf → s.isRam (effectiveAddress dst s).1 → t.peek (effectiveAddress dst s).1 = some r)

/-! ## Logic and bit instructions -/

/-- AND, ORA and EOR bit by bit, N and Z from the result (R340 to R342). -/
def Obligations.LogicalOperations : Prop :=
  ∀ (i : Instr) (src : Source) (s : State),
    (i.operation = .read .and src → ∃ t, exec i s = .next t ∧ unfaulted s t ∧ advances s t i.length ∧ nzOf t t.a ∧
      ∀ k, t.a.getLsbD k = (s.a.getLsbD k && (readSource src s).1.getLsbD k)) ∧
    (i.operation = .read .ora src → ∃ t, exec i s = .next t ∧ unfaulted s t ∧ advances s t i.length ∧ nzOf t t.a ∧
      ∀ k, t.a.getLsbD k = (s.a.getLsbD k || (readSource src s).1.getLsbD k)) ∧
    (i.operation = .read .eor src → ∃ t, exec i s = .next t ∧ unfaulted s t ∧ advances s t i.length ∧ nzOf t t.a ∧
      ∀ k, t.a.getLsbD k = (s.a.getLsbD k ^^ (readSource src s).1.getLsbD k))

/-- BIT: Z of A and M; N and V from M's bits 7 and 6 in the memory modes, unchanged in immediate mode (R343). -/
def Obligations.BitTest : Prop :=
  ∀ (i : Instr) (src : Source) (s : State), i.operation = .read .bit src →
    ∃ t, exec i s = .next t ∧ unfaulted s t ∧ advances s t i.length ∧ t.a = s.a ∧
      t.flag .z = decide (s.a &&& (readSource src s).1 = 0) ∧
      (∀ m, src = .imm m → t.flag .n = s.flag .n ∧ t.flag .v = s.flag .v) ∧
      (∀ o, src = .mem o → t.flag .n = (readSource src s).1.getLsbD 7 ∧ t.flag .v = (readSource src s).1.getLsbD 6)

/-- TRB and TSB: Z tests the byte before the change; the byte loses or gains the bits of A (R344, R345). -/
def Obligations.TestAndModifyBits : Prop :=
  ∀ (i : Instr) (dst : MemOperand) (s : State) (r : Byte),
    (i.operation = .modify .trb dst ∧ r = (readTarget dst s).m &&& ~~~s.a) ∨
      (i.operation = .modify .tsb dst ∧ r = (readTarget dst s).m ||| s.a) →
    s.writable (effectiveAddress dst s).1 = true →
    ∃ t, exec i s = .next t ∧ unfaulted s t ∧ advances s t i.length ∧ t.a = s.a ∧
      t.flag .z = decide (s.a &&& (readTarget dst s).m = 0) ∧
      (s.memoryWf → s.isRam (effectiveAddress dst s).1 → t.peek (effectiveAddress dst s).1 = some r)

/-- RMBn and SMBn change bit n of the zero-page byte and no other, and no flag (R346 to R364). -/
def Obligations.ResetAndSetMemoryBit : Prop :=
  ∀ (i : Instr) (n : Fin 8) (on : Bool) (z : Byte) (s : State),
    i.operation = .modify (if on then .smb n else .rmb n) (.zp z) → s.writable (zext z) = true →
    ∃ t r, exec i s = .next t ∧ unfaulted s t ∧ advances s t 2 ∧ t.p = s.p ∧ r.getLsbD n = on ∧
      (∀ k : Fin 8, k ≠ n → r.getLsbD k = (readTarget (.zp z) s).m.getLsbD k) ∧
      (s.memoryWf → s.isRam (zext z) → t.peek (zext z) = some r)

/-! ## Stack -/

/-- `Push` and `Pull`: the byte is written at `0x0100 | S` and S falls by one, wrapping in the page; S rises first and the
byte is read there (R20). That a refused push leaves S is read from the order of R20 and R500 (log entry 15, DEDUCED). A
pull after a push into RAM gives the byte back, restores S and leaves the byte in memory (R268, which the spec derives
from R20). -/
def Obligations.PushAndPull : Prop :=
  (∀ (s : State) (v : Byte),
    s.spAddr = stackAddr s.s ∧ s.spAddr.toNat = 0x0100 + s.s.toNat ∧
    (s.writable (stackAddr s.s) = true →
      ∃ t, s.memWrite (stackAddr s.s) v = .go t ∧ s.push v = .go { t with s := s.s - 1 }) ∧
    (s.writable (stackAddr s.s) = false → ∃ r t, s.memWrite (stackAddr s.s) v = .raised r t ∧ s.push v = .raised r t ∧
      t.s = s.s) ∧
    s.pull = ({ s with s := s.s + 1 }).memRead (stackAddr (s.s + 1))) ∧
  (∀ (s t : State) (v : Byte), s.memoryWf → s.isRam (stackAddr s.s) → s.push v = .go t →
    t.pull.1 = v ∧ t.pull.2.s = s.s ∧ t.pull.2.peek (stackAddr s.s) = some v)

/-- PHA, PHX, PHY and PHP (R260 to R263). -/
def Obligations.Pushes : Prop :=
  ∀ (i : Instr) (op : PushOp) (s : State), i.operation = .push op → s.writable (stackAddr s.s) = true →
    ∃ t, exec i s = .next t ∧ unfaulted s t ∧ advances s t 1 ∧ t.s = s.s - 1 ∧ t.p = s.p ∧
      (s.memoryWf → s.isRam (stackAddr s.s) → t.peek (stackAddr s.s) = some (pushedValue op s))

/-- PLA, PLX, PLY and PLP (R264 to R267). -/
def Obligations.Pulls : Prop :=
  ∀ (i : Instr) (op : PullOp) (s : State), i.operation = .pull op →
    ∃ t, exec i s = .next t ∧ unfaulted s t ∧ advances s t 1 ∧ t.s = s.s + 1 ∧
      (op = .pla → t.a = s.pull.1 ∧ nzOf t s.pull.1) ∧ (op = .plx → t.x = s.pull.1 ∧ nzOf t s.pull.1) ∧
      (op = .ply → t.y = s.pull.1 ∧ nzOf t s.pull.1) ∧ (op = .plp → t.p = (s.pull.1 &&& 0xCF) ||| 0x20) ∧
      ∀ v, s.peek (stackAddr (s.s + 1)) = some v → s.pull.1 = v

/-! ## Control transfer -/

/-- `SetPC(t)` (R24). -/
def Obligations.SetPcClampsWrapsOrFaults : Prop :=
  ∀ (s : State) (target : Int),
    (s.cfg.pcOverflow = .wrap → s.setPC target = .go { s with pc := BitVec.ofInt 16 target }) ∧
    (s.cfg.pcOverflow = .clamp → 0xFFFF < target → s.setPC target = .go { s with pc := 0xFFFF }) ∧
    (s.cfg.pcOverflow = .clamp → 0 ≤ target → target ≤ 0xFFFF →
      ∃ w : Word, (w.toNat : Int) = target ∧ s.setPC target = .go { s with pc := w }) ∧
    (s.cfg.pcOverflow = .clamp → target < 0 → s.setPC target = .raised (.pcRange target) s)

/-- The nine relative branches: to `pc0 + 2 + s8(op1)` when taken, to `pc0 + 2` when not, and nothing else but PC changes;
under `clamp` a taken branch to a target below 0 latches PcRange with PC kept (R280 to R289, R504). -/
def Obligations.RelativeBranches : Prop :=
  ∀ (i : Instr) (op : BranchOp) (d : Byte) (s : State), i.operation = .branch op d →
    (branchTaken op s = true → s.pcFits ((s.pc.toNat : Int) + 2 + s8 d) →
      exec i s = .next { s with pc := s.pcAfter ((s.pc.toNat : Int) + 2 + s8 d) }) ∧
    (branchTaken op s = false → exec i s = .next { s with pc := s.pcAfter ((s.pc.toNat : Int) + 2) }) ∧
    (branchTaken op s = true → s.cfg.pcOverflow = .clamp → (s.pc.toNat : Int) + 2 + s8 d < 0 →
      exec i s = .next { s with
        stopped := true
        faultReason := some (.pcRange ((s.pc.toNat : Int) + 2 + s8 d))
        events := s.events ++ [.fault (.pcRange ((s.pc.toNat : Int) + 2 + s8 d)) s.pc] })

/-- BBRn and BBSn test one bit of the zero-page byte and branch relative to the end of the three bytes: taken to
`pc0 + 3 + s8(op2)`, not taken to `pc0 + 3` whatever the displacement, and no flag is written; under `clamp` a taken one
to a target below 0 latches PcRange with PC kept (R290 to R308, R504). -/
def Obligations.BranchesOnABit : Prop :=
  ∀ (i : Instr) (n : Fin 8) (want : Bool) (z d : Byte) (s : State), i.operation = .branchBit n want z d →
    (let m := (s.memRead (zext z)).1
     let target := (s.pc.toNat : Int) + 3 + s8 d
     (∀ v, s.peek (zext z) = some v → m = v) ∧
       (m.getLsbD n = want → s.pcFits target →
         ∃ t, exec i s = .next t ∧ unfaulted s t ∧ t.p = s.p ∧ t.pc = s.pcAfter target) ∧
       (m.getLsbD n ≠ want → ∃ t, exec i s = .next t ∧ unfaulted s t ∧ t.p = s.p ∧ advances s t 3) ∧
       (m.getLsbD n = want → s.cfg.pcOverflow = .clamp → target < 0 →
         ∃ t, exec i s = .next t ∧ t.stopped = true ∧ t.faultReason = some (.pcRange target) ∧
           t.events = s.events ++ [.fault (.pcRange target) s.pc] ∧ t.pc = s.pc ∧ t.p = s.p))

/-- The three forms of JMP; the indirect pointer's high byte is at the next address, with no page wrap (R165, R166,
R310). -/
def Obligations.Jumps : Prop :=
  ∀ (i : Instr) (a : Word) (s : State),
    (i.operation = .jmp a → exec i s = .next { s with pc := a }) ∧
    (i.operation = .jmpInd a → ∃ t, exec i s = .next t ∧ unfaulted s t ∧ t.p = s.p ∧
      ∀ lo hi, s.peek a = some lo → s.peek (a + 1) = some hi → t.pc = wordOf hi lo) ∧
    (i.operation = .jmpIndX a → ∃ t, exec i s = .next t ∧ unfaulted s t ∧ t.p = s.p ∧
      ∀ lo hi, s.peek (a + zext s.x) = some lo → s.peek (a + zext s.x + 1) = some hi → t.pc = wordOf hi lo)

/-- JSR pushes the address of its last byte, high then low, and jumps (R311). -/
def Obligations.JsrCalls : Prop :=
  ∀ (i : Instr) (a : Word) (s : State), i.operation = .jsr a →
    s.writable (stackAddr s.s) = true → s.writable (stackAddr (s.s - 1)) = true →
    ∃ t, exec i s = .next t ∧ unfaulted s t ∧ t.pc = a ∧ t.s = s.s - 2 ∧ t.p = s.p ∧
      (s.memoryWf → s.isRam (stackAddr s.s) → t.peek (stackAddr s.s) = some (hiByte (s.pc + 2))) ∧
      (s.memoryWf → s.isRam (stackAddr (s.s - 1)) → t.peek (stackAddr (s.s - 1)) = some (loByte (s.pc + 2)))

/-- RTS pulls low then high and resumes one past the pulled address (R312). -/
def Obligations.RtsReturns : Prop :=
  ∀ (i : Instr) (s : State), i.operation = .rts →
    ∃ t, exec i s = .next t ∧ unfaulted s t ∧ t.s = s.s + 2 ∧ t.p = s.p ∧
      ∀ lo hi, s.peek (stackAddr (s.s + 1)) = some lo → s.peek (stackAddr (s.s + 2)) = some hi →
        t.pc = s.pcAfter (((wordOf hi lo).toNat : Int) + 1)

/-- An RTS executed after a JSR resumes after the JSR with S restored, when the stack is RAM (R311, R312). -/
def Obligations.RtsUndoesJsr : Prop :=
  ∀ (i j : Instr) (a : Word) (s t : State), i.operation = .jsr a → j.operation = .rts → s.memoryWf →
    s.isRam (stackAddr s.s) → s.isRam (stackAddr (s.s - 1)) → s.pc.toNat + 3 ≤ 0xFFFF → exec i s = .next t →
    ∃ u, exec j t = .next u ∧ unfaulted s u ∧ u.pc = s.pc + 3 ∧ u.s = s.s ∧ u.p = s.p ∧ sameAXY s u

/-- RTI pulls P, with B cleared and U set, then PC low and high, with no + 1 (R313, R532). -/
def Obligations.RtiRestores : Prop :=
  ∀ (i : Instr) (s : State), i.operation = .rti →
    ∃ t, exec i s = .next t ∧ unfaulted s t ∧ t.s = s.s + 3 ∧ t.flag .b = false ∧ t.flag .u = true ∧
      (∀ v, s.peek (stackAddr (s.s + 1)) = some v → t.p = (v &&& 0xCF) ||| 0x20) ∧
      ∀ lo hi, s.peek (stackAddr (s.s + 2)) = some lo → s.peek (stackAddr (s.s + 3)) = some hi → t.pc = wordOf hi lo

/-! ## System instructions -/

/-- A taken BRK (R430): return address pc0 plus `BRK_RETURN_OFFSET` and P with bits 4 and 5 set are pushed, B and I set,
D cleared, PC from the IRQ vector. -/
def Obligations.BrkTaken : Prop :=
  ∀ (i : Instr) (sig : Byte) (s : State), i.operation = .brk sig → brkTaken s = true →
    s.writable (stackAddr s.s) = true → s.writable (stackAddr (s.s - 1)) = true → s.writable (stackAddr (s.s - 2)) = true →
    ∃ t, exec i s = .next t ∧ unfaulted s t ∧ t.s = s.s - 3 ∧ sameAXY s t ∧ sameNVZC s t ∧
      t.flag .b = true ∧ t.flag .i = true ∧ t.flag .d = false ∧
      (∀ lo hi, s.peek 0xFFFE = some lo → s.peek 0xFFFF = some hi → t.pc = wordOf hi lo) ∧
      (s.memoryWf → s.isRam (stackAddr s.s) →
        t.peek (stackAddr s.s) = some (hiByte (s.pc + s.cfg.brkReturnOffset.value))) ∧
      (s.memoryWf → s.isRam (stackAddr (s.s - 1)) →
        t.peek (stackAddr (s.s - 1)) = some (loByte (s.pc + s.cfg.brkReturnOffset.value))) ∧
      (s.memoryWf → s.isRam (stackAddr (s.s - 2)) → t.peek (stackAddr (s.s - 2)) = some (s.p ||| 0x30))

/-- BRK with I = 1 under `nop` only advances PC by 2, under `halt` it also sets B (R10, R430). -/
def Obligations.BrkMasked : Prop :=
  ∀ (i : Instr) (sig : Byte) (s : State), i.operation = .brk sig → s.flag .i = true →
    (s.cfg.brkMasked = .nop → exec i s = .next { s with pc := s.pcAfter ((s.pc.toNat : Int) + 2) }) ∧
    (s.cfg.brkMasked = .halt → ∃ t, exec i s = .next t ∧ unfaulted s t ∧ advances s t 2 ∧ t.flag .b = true ∧
      t.s = s.s ∧ t.flag .i = true)

/-- WAI sets `waiting`, STP sets `stp`, NOP nothing; each moves PC on by one (R440 to R442). -/
def Obligations.WaiStpNop : Prop :=
  ∀ (i : Instr) (s : State),
    (i.operation = .wai → exec i s = .next { s with waiting := true, pc := s.pcAfter ((s.pc.toNat : Int) + 1) }) ∧
    (i.operation = .stp → exec i s = .next { s with stp := true, pc := s.pcAfter ((s.pc.toNat : Int) + 1) }) ∧
    (i.operation = .nop → exec i s = .next { s with pc := s.pcAfter ((s.pc.toNat : Int) + 1) })

/-- The flag instructions each write their one flag, and PC moves on by one; nothing else changes (R450 to R456). -/
def Obligations.FlagInstructions : Prop :=
  ∀ (i : Instr) (op : FlagOp) (f : Flag) (on : Bool) (s : State), i.operation = .flag op →
    (op, f, on) ∈ [(.clc, .c, false), (.sec, .c, true), (.cli, .i, false), (.sei, .i, true), (.cld, .d, false),
      (.sed, .d, true), (.clv, .v, false)] →
    ∃ t, exec i s = .next t ∧ t.flag f = on ∧ (∀ g, g ≠ f → g ≠ .u → t.flag g = s.flag g) ∧ t.flag .u = true ∧
      t = { s with p := t.p, pc := s.pcAfter ((s.pc.toNat : Int) + 1) }

/-! ## Reset, Run and load -/

/-- `Reset()` (R560, R561): every register and latch at its value of R58, PC from the reset vector, device arrays, map,
breakpoints, run mode and published events kept; a second Reset changes nothing where the vector bytes are not an I/O
device's (R562). -/
def Obligations.ResetCommandSetsTheResetState : Prop :=
  ∀ s : State,
    (let t := s.hostReset
     t.a = s.cfg.resetRegs.a ∧ t.x = s.cfg.resetRegs.x ∧ t.y = s.cfg.resetRegs.y ∧ t.s = 0xFF ∧
       t.flag .n = s.cfg.resetRegs.n ∧ t.flag .v = s.cfg.resetRegs.v ∧ t.flag .z = s.cfg.resetRegs.z ∧
       t.flag .c = s.cfg.resetRegs.c ∧ t.flag .i = true ∧ t.flag .d = false ∧ t.flag .b = false ∧ t.flag .u = true ∧
       t.stopped = false ∧ t.faultReason = none ∧ t.waiting = false ∧ t.stp = false ∧ t.nmiPending = false ∧
       t.irqPending = false ∧ t.ticks = 0 ∧
       (∀ lo hi, s.peek 0xFFFC = some lo → s.peek 0xFFFD = some hi → t.pc = wordOf hi lo) ∧
       (∀ a, t.peek a = s.peek a) ∧ t.cfg = s.cfg ∧ t.breakpoints = s.breakpoints ∧ t.runMode = s.runMode ∧
       t.events = s.events) ∧
    (s.noIo 0xFFFC → s.noIo 0xFFFD → s.hostReset.hostReset = s.hostReset)

/-- A flashed image lies right-justified with the offset option and from index 0 without it; a cell outside it is
unchanged (the rule is the ROM's; that it holds of any flashed device is the model's choice, log entry 19); an image larger than the array, or of the wrong size for the 32K variant, is an error (R91, R508). A
configured range that exceeds the capacity of its device is an error (R78 (d)); a configuration error publishes one
event, changes nothing else and keeps the emulator from starting (R507, R508). A configuration that loads changes the bus
alone, and on it every selected device holds the address. -/
def Obligations.RomFlashPlacesTheImage : Prop :=
  (∀ (cfg : Config) (image : RomImage) (d : Device), d.wf cfg = true →
      (d.attr.capacity < image.bytes.length → flash cfg image d = .error .romImageTooLarge) ∧
      (image.bytes.length ≤ d.attr.capacity → d.attr.rom32k = true → image.bytes.length ≠ 32768 →
        flash cfg image d = .error .romImageSizeMismatch) ∧
      (image.bytes.length ≤ d.attr.capacity → (d.attr.rom32k = true → image.bytes.length = 32768) →
        ∃ e, flash cfg image d = .ok e ∧ e.attr = d.attr ∧ e.wf cfg = true ∧
          ∀ k, (let base := if image.offset then d.attr.capacity - image.bytes.length else 0
            Cells.read (cfg.fill d.attr.mappedIo) k e.cells =
              if h : base ≤ k ∧ k - base < image.bytes.length then image.bytes[k - base]'h.2
              else Cells.read (cfg.fill d.attr.mappedIo) k d.cells))) ∧
  (∀ (cfg : Config) (d : Device) (image : Option RomImage) (rest : List Attachment) (r : AddressRange) (s : State),
    r ∈ cfg.ranges → r.chip = d.attr.mappedIo → d.attr.capacity < r.stop.toNat - r.start.toNat + 1 →
    configure cfg (⟨d, image⟩ :: rest) s = .error .rangeExceedsCapacity) ∧
  (∀ (cfg : Config) (attachments : List Attachment) (s : State) (e : Fault), configure cfg attachments s = .error e →
    s.configureAndFlash cfg attachments = { s with events := s.events ++ [.configError e] } ∧
      launch cfg attachments = .fault e) ∧
  (∀ (cfg : Config) (attachments : List Attachment) (s t : State), configure cfg attachments s = .ok t →
    t = { s with cfg := cfg, devices := t.devices } ∧ s.configureAndFlash cfg attachments = t ∧
      ∀ d ∈ t.devices, ∀ a, d.selected (decodeAddress cfg.ranges a) = true → (d.index a).isSome = true) ∧
  Fault.romImageTooLarge.code = 32 ∧ Fault.romImageSizeMismatch.code = 33 ∧ Fault.rangeExceedsCapacity.code = 34

/-- A Run ends only as R541 lists: cancelled, at a breakpoint, refused, or after a Step that left the core stopped, in
STP or in break-halt; its last state shows which. -/
def Obligations.RunEndsOnlyAsListed : Prop :=
  ∀ (env : List (List Asynchronous)) (s t : State) (e : RunEnd), s.runCommand env = (some e, t) →
    (e = .cancelled → t.runMode = .stop) ∧ (e = .atBreakpoint → t.pc ∈ t.breakpoints) ∧
    (∀ why, e = .refused why → step t = .refused why) ∧
    (∀ r, e = .faulted r → t.stopped = true ∧ t.faultReason = r) ∧
    (e = .stopped → t.stopped = false ∧ t.stp = true) ∧
    (e = .break → t.stopped = false ∧ t.stp = false ∧ t.flag .b = true) ∧ (∀ x, e ≠ .configError x)

/-! ## Independence -/

/-- D changes ADC and SBC alone: every other instruction, PHP and BRK (which push P) apart, does the same with D set or
clear, and only D itself differs afterwards (R219, R41). -/
def Obligations.DecimalFlagMattersOnlyToAdcAndSbc : Prop :=
  ∀ (i : Instr) (s : State) (d : Bool), s.flag .u = true →
    (∀ src, i.operation ≠ .read .adc src ∧ i.operation ≠ .read .sbc src) → i.operation ≠ .push .php →
    (∀ sig, i.operation ≠ .brk sig) →
    ∃ t t', exec i s = .next t ∧ exec i (s.withFlag .d d) = .next t' ∧ { t' with p := t.p } = t ∧
      ∀ f, f ≠ .d → t'.flag f = t.flag f
end

