-- ==== Sys2Proof/Laws/Memory.lean ====
section
/-! SUPPORT. The laws of a byte array: a read after a write, and that a write keeps the canonical form. -/

namespace Sys2Proof.Machine

theorem Cells.read_write_same (fill : Byte) (i : Nat) (v : Byte) :
    ∀ cells : Cells, ∀ capacity lo, Cells.wfFrom fill capacity lo cells = true →
      Cells.read fill i (Cells.write fill i v cells) = v
  | [], _, _, _ => by
    unfold Cells.write
    split <;> simp_all [Cells.read]
  | (j, w) :: rest, capacity, lo, h => by
    simp only [Cells.wfFrom, Bool.and_eq_true, decide_eq_true_eq] at h
    have rest_below : ∀ (cells : Cells) k, Cells.wfFrom fill capacity k cells = true → i < k →
        Cells.read fill i cells = fill := by
      intro cells
      induction cells with
      | nil => intros; rfl
      | cons c cs ih =>
        intro k hk hik
        simp only [Cells.wfFrom, Bool.and_eq_true, decide_eq_true_eq] at hk
        rw [Cells.read, if_neg (by omega)]
        exact ih _ hk.2 (by omega)
    unfold Cells.write
    split
    · split
      · subst_vars
        rw [Cells.read, if_neg (by omega)]
        exact rest_below rest _ h.2 (by omega)
      · simp [Cells.read]
    · split
      · split
        · subst_vars
          exact rest_below rest _ h.2 (by omega)
        · simp [Cells.read]
      · rw [Cells.read, if_neg (by omega)]
        exact Cells.read_write_same fill i v rest _ _ h.2

theorem Cells.read_write_other (fill : Byte) {i k : Nat} (v : Byte) (hne : k ≠ i) :
    ∀ cells : Cells, Cells.read fill k (Cells.write fill i v cells) = Cells.read fill k cells
  | [] => by
    unfold Cells.write
    split <;> simp [Cells.read, hne]
  | (j, w) :: rest => by
    have ih := Cells.read_write_other fill v hne rest
    unfold Cells.write
    split
    · split <;> simp [Cells.read, hne]
    · split
      · subst_vars
        split <;> simp [Cells.read, hne]
      · simp only [Cells.read, ih]

theorem Cells.wfFrom_mono (fill : Byte) (capacity : Nat) {lo lo' : Nat} (hle : lo' ≤ lo) :
    ∀ cells : Cells, Cells.wfFrom fill capacity lo cells = true → Cells.wfFrom fill capacity lo' cells = true
  | [], _ => rfl
  | (j, w) :: rest, h => by
    simp only [Cells.wfFrom, Bool.and_eq_true, decide_eq_true_eq] at h ⊢
    exact ⟨⟨⟨by omega, h.1.1.2⟩, h.1.2⟩, h.2⟩

theorem Cells.write_wfFrom (fill : Byte) (capacity : Nat) {i : Nat} (v : Byte) (hi : i < capacity) :
    ∀ (cells : Cells) (lo : Nat), lo ≤ i → Cells.wfFrom fill capacity lo cells = true →
      Cells.wfFrom fill capacity lo (Cells.write fill i v cells) = true
  | [], lo, hlo, _ => by
    unfold Cells.write
    split <;> simp_all [Cells.wfFrom]
  | (j, w) :: rest, lo, hlo, h => by
    have h' := h
    simp only [Cells.wfFrom, Bool.and_eq_true, decide_eq_true_eq] at h'
    unfold Cells.write
    split
    · split
      · exact h
      · simp only [Cells.wfFrom, Bool.and_eq_true, decide_eq_true_eq]
        exact ⟨⟨⟨hlo, hi⟩, ‹_›⟩, ⟨⟨by omega, h'.1.1.2⟩, h'.1.2⟩, h'.2⟩
    · split
      · split
        · exact Cells.wfFrom_mono fill capacity (by omega) rest h'.2
        · subst_vars
          simp only [Cells.wfFrom, Bool.and_eq_true, decide_eq_true_eq]
          exact ⟨⟨⟨hlo, hi⟩, ‹_›⟩, h'.2⟩
      · simp only [Cells.wfFrom, Bool.and_eq_true, decide_eq_true_eq]
        exact ⟨⟨⟨by omega, h'.1.1.2⟩, h'.1.2⟩,
          Cells.write_wfFrom fill capacity v hi rest (j + 1) (by omega) h'.2⟩

/-- A write inside the array keeps the canonical form. -/
theorem Memory.write_wf (fill : Byte) (capacity : Nat) {i : Nat} (v : Byte) (cells : Cells) (hi : i < capacity)
    (h : Memory.wf fill capacity cells = true) : Memory.wf fill capacity (Cells.write fill i v cells) = true :=
  Cells.write_wfFrom fill capacity v hi cells 0 (Nat.zero_le _) h

/-- In canonical form, reading back a written byte gives it. -/
theorem Memory.read_write_same (fill : Byte) (capacity i : Nat) (v : Byte) (cells : Cells)
    (h : Memory.wf fill capacity cells = true) : Cells.read fill i (Cells.write fill i v cells) = v :=
  Cells.read_write_same fill i v cells capacity 0 h

end Sys2Proof.Machine
end

