-- ==== Sys2Proof/Laws/Bus.lean ====
section
/-! SUPPORT. What a Read and a Write transaction do to the devices: attributes never change, a Read leaves every array
alone, a Write changes only the cell of its own address, and both keep the canonical form. -/

namespace Sys2Proof.Machine

@[simp] theorem Device.noteRead_attr (addr : Word) (d : Device) : (d.noteRead addr).attr = d.attr := by
  unfold Device.noteRead; split <;> rfl

@[simp] theorem Device.noteRead_cells (addr : Word) (d : Device) : (d.noteRead addr).cells = d.cells := by
  unfold Device.noteRead; split <;> rfl

@[simp] theorem Device.write_attr (cfg : Config) (addr : Word) (v : Byte) (d : Device) :
    (d.write cfg addr v).attr = d.attr := by
  unfold Device.write; split
  · rfl
  · split <;> rfl

theorem Device.index_congr {d e : Device} (h : d.attr = e.attr) (a : Word) : d.index a = e.index a := by
  simp [Device.index, h]

theorem Device.selected_congr {d e : Device} (h : d.attr = e.attr) (sel : List ChipSelect) :
    d.selected sel = e.selected sel := by
  simp [Device.selected, h]

theorem Device.readsFor_congr {d e : Device} (h : d.attr = e.attr) (sel : List ChipSelect) :
    d.readsFor sel = e.readsFor sel := by
  simp [Device.readsFor, Device.selected, h]

/-- A device's fixed answer depends on its attributes and its array alone. -/
theorem Device.peek_congr {d e : Device} (cfg : Config) (a : Word) (data : Option Byte) (h : d.attr = e.attr)
    (hc : d.cells = e.cells) : d.peek cfg a data = e.peek cfg a data := by
  simp [Device.peek, Device.index_congr h, h, hc]

/-- An index determines its address. -/
theorem Device.index_ne {d : Device} {a b : Word} {i j : Nat} (ha : d.index a = some i) (hb : d.index b = some j)
    (hne : a ≠ b) : i ≠ j := by
  unfold Device.index at ha hb
  split at ha <;> split at hb <;> simp_all
  rename_i h1 h2
  have h3 := h1.1; have h4 := h2.1
  rw [BitVec.le_def] at h3 h4
  intro hij
  apply hne
  apply BitVec.eq_of_toNat_eq
  omega

theorem Device.index_lt {d : Device} {a : Word} {i : Nat} (h : d.index a = some i) : i < d.attr.capacity := by
  unfold Device.index at h
  split at h
  · rename_i hc
    simp only [Option.some.injEq] at h
    omega
  · simp at h

/-- A write leaves the fixed answer at every other address alone. -/
theorem Device.peek_write_other (cfg : Config) {a b : Word} (v : Byte) (data : Option Byte) (d : Device)
    (hne : b ≠ a) : (d.write cfg a v).peek cfg b data = d.peek cfg b data := by
  unfold Device.write
  split
  · rfl
  · split
    · rename_i i hi
      unfold Device.peek
      simp only [Device.index_congr (d := { d with cells := Cells.write (cfg.fill d.attr.mappedIo) i v d.cells }) (e := d) rfl]
      split
      · rfl
      · split
        · rename_i j hj
          rw [Cells.read_write_other _ v (Device.index_ne hj hi hne)]
        · rfl
    · rfl

theorem Device.write_wf (cfg : Config) (a : Word) (v : Byte) (d : Device) (h : d.wf cfg = true) :
    (d.write cfg a v).wf cfg = true := by
  unfold Device.write
  split
  · exact h
  · split
    · rename_i i hi
      exact Memory.write_wf _ _ v d.cells (Device.index_lt hi) h
    · exact h

theorem Device.noteRead_wf (cfg : Config) (a : Word) (d : Device) (h : d.wf cfg = true) :
    (d.noteRead a).wf cfg = true := by
  unfold Device.noteRead
  split <;> exact h

/-! ## Reads -/

theorem readDevices_attr (sel : List ChipSelect) (a : Word) (ds : List Device) :
    (readDevices sel a ds).map (·.attr) = ds.map (·.attr) := by
  simp only [readDevices, List.map_map]
  apply List.map_congr_left
  intro d _
  simp only [Function.comp]
  split <;> simp

/-- A Read changes no answer that the state fixes. -/
theorem peekDevices_readDevices (cfg : Config) (sel sel' : List ChipSelect) (a b : Word) (ds : List Device) :
    ∀ data, peekDevices cfg sel b data (readDevices sel' a ds) = peekDevices cfg sel b data ds := by
  induction ds with
  | nil => intro; rfl
  | cons d rest ih =>
    intro data
    have hattr : (if d.readsFor sel' then d.noteRead a else d).attr = d.attr := by split <;> simp
    have hcells : (if d.readsFor sel' then d.noteRead a else d).cells = d.cells := by split <;> simp
    simp only [readDevices, List.map_cons, peekDevices] at ih ⊢
    rw [Device.readsFor_congr hattr, Device.peek_congr cfg b data hattr hcells, ih]

/-- A Read returns the fixed answer where there is one. -/
theorem readData_of_peekDevices (cfg : Config) (sel : List ChipSelect) (a : Word) (v : Byte) (ds : List Device) :
    ∀ (known : Option Byte) (data : Byte), (∀ w, known = some w → data = w) →
      peekDevices cfg sel a known ds = some v → readData cfg sel a data ds = v := by
  induction ds with
  | nil =>
    intro known data hk h
    exact hk v h
  | cons d rest ih =>
    intro known data hk h
    rw [readData]
    refine ih _ _ ?_ h
    intro w hw
    split at hw
    · rw [if_pos ‹_›]
      unfold Device.peek at hw
      unfold Device.answer
      split at hw
      · simp at hw
      · rw [if_neg ‹_›]
        split at hw <;> simp_all
    · rw [if_neg ‹_›]
      exact hk w hw

theorem readDevices_wf (cfg : Config) (sel : List ChipSelect) (a : Word) (ds : List Device)
    (h : ∀ d ∈ ds, d.wf cfg = true) : ∀ d ∈ readDevices sel a ds, d.wf cfg = true := by
  intro d hd
  simp only [readDevices, List.mem_map] at hd
  obtain ⟨e, he, rfl⟩ := hd
  split
  · exact Device.noteRead_wf cfg a e (h e he)
  · exact h e he

/-- Where no I/O device is selected a Read changes no device. -/
theorem readDevices_of_noIo (sel : List ChipSelect) (a : Word) (ds : List Device)
    (h : ∀ d ∈ ds, d.selected sel = true → d.attr.mappedIo.isIo = false) : readDevices sel a ds = ds := by
  unfold readDevices
  conv => rhs; rw [← List.map_id ds]
  apply List.map_congr_left
  intro d hd
  split
  · have hs : d.selected sel = true := by
      simp only [Device.readsFor, Bool.and_eq_true] at *
      tauto
    simp [Device.noteRead, h d hd hs]
  · rfl

/-! ## Writes -/

theorem writeDevices_attr (cfg : Config) (sel : List ChipSelect) (a : Word) (v : Byte) (ds : List Device) :
    (writeDevices cfg sel a v ds).map (·.attr) = ds.map (·.attr) := by
  induction ds with
  | nil => rfl
  | cons d rest ih =>
    unfold writeDevices
    split
    · split <;> simp [ih]
    · simp [ih]

theorem writeDevices_wf (cfg : Config) (sel : List ChipSelect) (a : Word) (v : Byte) (ds : List Device)
    (h : ∀ d ∈ ds, d.wf cfg = true) : ∀ d ∈ writeDevices cfg sel a v ds, d.wf cfg = true := by
  induction ds with
  | nil => simp [writeDevices]
  | cons d rest ih =>
    have hd := h d (by simp)
    have hr := ih fun e he => h e (by simp [he])
    unfold writeDevices
    split
    · split
      · intro e he
        rcases List.mem_cons.1 he with rfl | he
        · exact Device.write_wf cfg a v d hd
        · exact hr e he
      · exact h
    · intro e he
      rcases List.mem_cons.1 he with rfl | he
      · exact hd
      · exact hr e he

/-- A Write changes no answer at any other address. -/
theorem peekDevices_writeDevices_other (cfg : Config) (sel sel' : List ChipSelect) {a b : Word} (v : Byte)
    (hne : b ≠ a) (ds : List Device) :
    ∀ data, peekDevices cfg sel' b data (writeDevices cfg sel a v ds) = peekDevices cfg sel' b data ds := by
  induction ds with
  | nil => intro; rfl
  | cons d rest ih =>
    intro data
    unfold writeDevices
    split
    · split
      · simp only [peekDevices, Device.peek_write_other cfg v data d hne,
          Device.readsFor_congr (Device.write_attr cfg a v d), ih]
      · rfl
    · simp only [peekDevices, ih]

/-- When every selected device may be written, a Write reaches each of them. -/
theorem writeDevices_of_writable (cfg : Config) (sel : List ChipSelect) (a : Word) (v : Byte) (ds : List Device)
    (h : writableBy sel ds = true) :
    writeDevices cfg sel a v ds = ds.map fun d => if d.selected sel then d.write cfg a v else d := by
  induction ds with
  | nil => rfl
  | cons d rest ih =>
    simp only [writableBy, List.all_cons, Bool.and_eq_true, Bool.or_eq_true, Bool.not_eq_true'] at h ih
    unfold writeDevices
    split
    · rw [if_pos (by simp_all), ih h.2]
      simp [*]
    · rw [ih h.2]
      simp [*]

/-- A written RAM cell reads back. -/
theorem Device.peek_write_same (cfg : Config) (a : Word) (v : Byte) (data : Option Byte) (d : Device)
    (hwf : d.wf cfg = true) (hio : d.attr.mappedIo.isIo = false) (hi : (d.index a).isSome = true) :
    (d.write cfg a v).peek cfg a data = some v := by
  obtain ⟨i, hi⟩ := Option.isSome_iff_exists.1 hi
  have hw : d.write cfg a v = { d with cells := Cells.write (cfg.fill d.attr.mappedIo) i v d.cells } := by
    simp [Device.write, hio, hi]
  have hx : (d.write cfg a v).index a = some i := by rw [Device.index_congr (Device.write_attr cfg a v d), hi]
  have hc : (d.write cfg a v).cells = Cells.write (cfg.fill d.attr.mappedIo) i v d.cells := by rw [hw]
  simp [Device.peek, Device.write_attr, hio, hx, hc, Memory.read_write_same _ _ i v d.cells hwf]

theorem peekDevices_write_same (cfg : Config) (sel : List ChipSelect) (a : Word) (v : Byte) (ds : List Device)
    (hwf : ∀ d ∈ ds, d.wf cfg = true)
    (hram : ∀ d ∈ ds, d.selected sel = true →
      d.attr.mode = .readWrite ∧ d.attr.mappedIo.isIo = false ∧ (d.index a).isSome = true) :
    ∀ data, (data = some v ∨ ∃ d ∈ ds, d.selected sel = true) →
      peekDevices cfg sel a data (ds.map fun d => if d.selected sel then d.write cfg a v else d) = some v := by
  induction ds with
  | nil =>
    intro data h
    rcases h with h | ⟨d, hd, _⟩
    · exact h
    · simp at hd
  | cons d rest ih =>
    intro data h
    have ih := ih (fun e he => hwf e (by simp [he])) (fun e he => hram e (by simp [he]))
    simp only [List.map_cons, peekDevices]
    by_cases hs : d.selected sel = true
    · obtain ⟨hm, hio, hi⟩ := hram d (by simp) hs
      apply ih
      left
      have hr : (d.write cfg a v).readsFor sel = true := by
        rw [Device.readsFor_congr (Device.write_attr cfg a v d)]
        simp [Device.readsFor, hs, hm, DeviceMode.canRead]
      simp [hs, hr, Device.peek_write_same cfg a v data d (hwf d (by simp)) hio hi]
    · apply ih
      rcases h with h | ⟨e, he, hes⟩
      · left
        simp [hs, Device.readsFor, h]
      · rcases List.mem_cons.1 he with rfl | he
        · exact absurd hes hs
        · exact Or.inr ⟨e, he, hes⟩

end Sys2Proof.Machine
end

