-- ==== Sys2Proof/Laws/State.lean ====
section
/-! SUPPORT. What each state update does to each field, by definition; no later proof unfolds a record update. -/

namespace Sys2Proof.Machine

@[simp] theorem State.withA_a (v : Byte) (st : State) : (st.withA v).a = v := rfl
@[simp] theorem State.withA_x (v : Byte) (st : State) : (st.withA v).x = st.x := rfl
@[simp] theorem State.withA_y (v : Byte) (st : State) : (st.withA v).y = st.y := rfl
@[simp] theorem State.withA_s (v : Byte) (st : State) : (st.withA v).s = st.s := rfl
@[simp] theorem State.withA_pc (v : Byte) (st : State) : (st.withA v).pc = st.pc := rfl
@[simp] theorem State.withA_p (v : Byte) (st : State) : (st.withA v).p = st.p := rfl
@[simp] theorem State.withA_stopped (v : Byte) (st : State) : (st.withA v).stopped = st.stopped := rfl
@[simp] theorem State.withA_faultReason (v : Byte) (st : State) : (st.withA v).faultReason = st.faultReason := rfl
@[simp] theorem State.withA_waiting (v : Byte) (st : State) : (st.withA v).waiting = st.waiting := rfl
@[simp] theorem State.withA_stp (v : Byte) (st : State) : (st.withA v).stp = st.stp := rfl
@[simp] theorem State.withA_nmiPending (v : Byte) (st : State) : (st.withA v).nmiPending = st.nmiPending := rfl
@[simp] theorem State.withA_irqPending (v : Byte) (st : State) : (st.withA v).irqPending = st.irqPending := rfl
@[simp] theorem State.withA_ticks (v : Byte) (st : State) : (st.withA v).ticks = st.ticks := rfl
@[simp] theorem State.withA_devices (v : Byte) (st : State) : (st.withA v).devices = st.devices := rfl
@[simp] theorem State.withA_breakpoints (v : Byte) (st : State) : (st.withA v).breakpoints = st.breakpoints := rfl
@[simp] theorem State.withA_runMode (v : Byte) (st : State) : (st.withA v).runMode = st.runMode := rfl
@[simp] theorem State.withA_events (v : Byte) (st : State) : (st.withA v).events = st.events := rfl
@[simp] theorem State.withA_cfg (v : Byte) (st : State) : (st.withA v).cfg = st.cfg := rfl

@[simp] theorem State.withX_a (v : Byte) (st : State) : (st.withX v).a = st.a := rfl
@[simp] theorem State.withX_x (v : Byte) (st : State) : (st.withX v).x = v := rfl
@[simp] theorem State.withX_y (v : Byte) (st : State) : (st.withX v).y = st.y := rfl
@[simp] theorem State.withX_s (v : Byte) (st : State) : (st.withX v).s = st.s := rfl
@[simp] theorem State.withX_pc (v : Byte) (st : State) : (st.withX v).pc = st.pc := rfl
@[simp] theorem State.withX_p (v : Byte) (st : State) : (st.withX v).p = st.p := rfl
@[simp] theorem State.withX_stopped (v : Byte) (st : State) : (st.withX v).stopped = st.stopped := rfl
@[simp] theorem State.withX_faultReason (v : Byte) (st : State) : (st.withX v).faultReason = st.faultReason := rfl
@[simp] theorem State.withX_waiting (v : Byte) (st : State) : (st.withX v).waiting = st.waiting := rfl
@[simp] theorem State.withX_stp (v : Byte) (st : State) : (st.withX v).stp = st.stp := rfl
@[simp] theorem State.withX_nmiPending (v : Byte) (st : State) : (st.withX v).nmiPending = st.nmiPending := rfl
@[simp] theorem State.withX_irqPending (v : Byte) (st : State) : (st.withX v).irqPending = st.irqPending := rfl
@[simp] theorem State.withX_ticks (v : Byte) (st : State) : (st.withX v).ticks = st.ticks := rfl
@[simp] theorem State.withX_devices (v : Byte) (st : State) : (st.withX v).devices = st.devices := rfl
@[simp] theorem State.withX_breakpoints (v : Byte) (st : State) : (st.withX v).breakpoints = st.breakpoints := rfl
@[simp] theorem State.withX_runMode (v : Byte) (st : State) : (st.withX v).runMode = st.runMode := rfl
@[simp] theorem State.withX_events (v : Byte) (st : State) : (st.withX v).events = st.events := rfl
@[simp] theorem State.withX_cfg (v : Byte) (st : State) : (st.withX v).cfg = st.cfg := rfl

@[simp] theorem State.withY_a (v : Byte) (st : State) : (st.withY v).a = st.a := rfl
@[simp] theorem State.withY_x (v : Byte) (st : State) : (st.withY v).x = st.x := rfl
@[simp] theorem State.withY_y (v : Byte) (st : State) : (st.withY v).y = v := rfl
@[simp] theorem State.withY_s (v : Byte) (st : State) : (st.withY v).s = st.s := rfl
@[simp] theorem State.withY_pc (v : Byte) (st : State) : (st.withY v).pc = st.pc := rfl
@[simp] theorem State.withY_p (v : Byte) (st : State) : (st.withY v).p = st.p := rfl
@[simp] theorem State.withY_stopped (v : Byte) (st : State) : (st.withY v).stopped = st.stopped := rfl
@[simp] theorem State.withY_faultReason (v : Byte) (st : State) : (st.withY v).faultReason = st.faultReason := rfl
@[simp] theorem State.withY_waiting (v : Byte) (st : State) : (st.withY v).waiting = st.waiting := rfl
@[simp] theorem State.withY_stp (v : Byte) (st : State) : (st.withY v).stp = st.stp := rfl
@[simp] theorem State.withY_nmiPending (v : Byte) (st : State) : (st.withY v).nmiPending = st.nmiPending := rfl
@[simp] theorem State.withY_irqPending (v : Byte) (st : State) : (st.withY v).irqPending = st.irqPending := rfl
@[simp] theorem State.withY_ticks (v : Byte) (st : State) : (st.withY v).ticks = st.ticks := rfl
@[simp] theorem State.withY_devices (v : Byte) (st : State) : (st.withY v).devices = st.devices := rfl
@[simp] theorem State.withY_breakpoints (v : Byte) (st : State) : (st.withY v).breakpoints = st.breakpoints := rfl
@[simp] theorem State.withY_runMode (v : Byte) (st : State) : (st.withY v).runMode = st.runMode := rfl
@[simp] theorem State.withY_events (v : Byte) (st : State) : (st.withY v).events = st.events := rfl
@[simp] theorem State.withY_cfg (v : Byte) (st : State) : (st.withY v).cfg = st.cfg := rfl

@[simp] theorem State.withS_a (v : Byte) (st : State) : (st.withS v).a = st.a := rfl
@[simp] theorem State.withS_x (v : Byte) (st : State) : (st.withS v).x = st.x := rfl
@[simp] theorem State.withS_y (v : Byte) (st : State) : (st.withS v).y = st.y := rfl
@[simp] theorem State.withS_s (v : Byte) (st : State) : (st.withS v).s = v := rfl
@[simp] theorem State.withS_pc (v : Byte) (st : State) : (st.withS v).pc = st.pc := rfl
@[simp] theorem State.withS_p (v : Byte) (st : State) : (st.withS v).p = st.p := rfl
@[simp] theorem State.withS_stopped (v : Byte) (st : State) : (st.withS v).stopped = st.stopped := rfl
@[simp] theorem State.withS_faultReason (v : Byte) (st : State) : (st.withS v).faultReason = st.faultReason := rfl
@[simp] theorem State.withS_waiting (v : Byte) (st : State) : (st.withS v).waiting = st.waiting := rfl
@[simp] theorem State.withS_stp (v : Byte) (st : State) : (st.withS v).stp = st.stp := rfl
@[simp] theorem State.withS_nmiPending (v : Byte) (st : State) : (st.withS v).nmiPending = st.nmiPending := rfl
@[simp] theorem State.withS_irqPending (v : Byte) (st : State) : (st.withS v).irqPending = st.irqPending := rfl
@[simp] theorem State.withS_ticks (v : Byte) (st : State) : (st.withS v).ticks = st.ticks := rfl
@[simp] theorem State.withS_devices (v : Byte) (st : State) : (st.withS v).devices = st.devices := rfl
@[simp] theorem State.withS_breakpoints (v : Byte) (st : State) : (st.withS v).breakpoints = st.breakpoints := rfl
@[simp] theorem State.withS_runMode (v : Byte) (st : State) : (st.withS v).runMode = st.runMode := rfl
@[simp] theorem State.withS_events (v : Byte) (st : State) : (st.withS v).events = st.events := rfl
@[simp] theorem State.withS_cfg (v : Byte) (st : State) : (st.withS v).cfg = st.cfg := rfl

@[simp] theorem State.withPc_a (v : Word) (st : State) : (st.withPc v).a = st.a := rfl
@[simp] theorem State.withPc_x (v : Word) (st : State) : (st.withPc v).x = st.x := rfl
@[simp] theorem State.withPc_y (v : Word) (st : State) : (st.withPc v).y = st.y := rfl
@[simp] theorem State.withPc_s (v : Word) (st : State) : (st.withPc v).s = st.s := rfl
@[simp] theorem State.withPc_pc (v : Word) (st : State) : (st.withPc v).pc = v := rfl
@[simp] theorem State.withPc_p (v : Word) (st : State) : (st.withPc v).p = st.p := rfl
@[simp] theorem State.withPc_stopped (v : Word) (st : State) : (st.withPc v).stopped = st.stopped := rfl
@[simp] theorem State.withPc_faultReason (v : Word) (st : State) : (st.withPc v).faultReason = st.faultReason := rfl
@[simp] theorem State.withPc_waiting (v : Word) (st : State) : (st.withPc v).waiting = st.waiting := rfl
@[simp] theorem State.withPc_stp (v : Word) (st : State) : (st.withPc v).stp = st.stp := rfl
@[simp] theorem State.withPc_nmiPending (v : Word) (st : State) : (st.withPc v).nmiPending = st.nmiPending := rfl
@[simp] theorem State.withPc_irqPending (v : Word) (st : State) : (st.withPc v).irqPending = st.irqPending := rfl
@[simp] theorem State.withPc_ticks (v : Word) (st : State) : (st.withPc v).ticks = st.ticks := rfl
@[simp] theorem State.withPc_devices (v : Word) (st : State) : (st.withPc v).devices = st.devices := rfl
@[simp] theorem State.withPc_breakpoints (v : Word) (st : State) : (st.withPc v).breakpoints = st.breakpoints := rfl
@[simp] theorem State.withPc_runMode (v : Word) (st : State) : (st.withPc v).runMode = st.runMode := rfl
@[simp] theorem State.withPc_events (v : Word) (st : State) : (st.withPc v).events = st.events := rfl
@[simp] theorem State.withPc_cfg (v : Word) (st : State) : (st.withPc v).cfg = st.cfg := rfl

@[simp] theorem State.withP_a (v : Byte) (st : State) : (st.withP v).a = st.a := rfl
@[simp] theorem State.withP_x (v : Byte) (st : State) : (st.withP v).x = st.x := rfl
@[simp] theorem State.withP_y (v : Byte) (st : State) : (st.withP v).y = st.y := rfl
@[simp] theorem State.withP_s (v : Byte) (st : State) : (st.withP v).s = st.s := rfl
@[simp] theorem State.withP_pc (v : Byte) (st : State) : (st.withP v).pc = st.pc := rfl
@[simp] theorem State.withP_p (v : Byte) (st : State) : (st.withP v).p = v ||| 0x20 := rfl
@[simp] theorem State.withP_stopped (v : Byte) (st : State) : (st.withP v).stopped = st.stopped := rfl
@[simp] theorem State.withP_faultReason (v : Byte) (st : State) : (st.withP v).faultReason = st.faultReason := rfl
@[simp] theorem State.withP_waiting (v : Byte) (st : State) : (st.withP v).waiting = st.waiting := rfl
@[simp] theorem State.withP_stp (v : Byte) (st : State) : (st.withP v).stp = st.stp := rfl
@[simp] theorem State.withP_nmiPending (v : Byte) (st : State) : (st.withP v).nmiPending = st.nmiPending := rfl
@[simp] theorem State.withP_irqPending (v : Byte) (st : State) : (st.withP v).irqPending = st.irqPending := rfl
@[simp] theorem State.withP_ticks (v : Byte) (st : State) : (st.withP v).ticks = st.ticks := rfl
@[simp] theorem State.withP_devices (v : Byte) (st : State) : (st.withP v).devices = st.devices := rfl
@[simp] theorem State.withP_breakpoints (v : Byte) (st : State) : (st.withP v).breakpoints = st.breakpoints := rfl
@[simp] theorem State.withP_runMode (v : Byte) (st : State) : (st.withP v).runMode = st.runMode := rfl
@[simp] theorem State.withP_events (v : Byte) (st : State) : (st.withP v).events = st.events := rfl
@[simp] theorem State.withP_cfg (v : Byte) (st : State) : (st.withP v).cfg = st.cfg := rfl

@[simp] theorem State.withWaiting_a (v : Bool) (st : State) : (st.withWaiting v).a = st.a := rfl
@[simp] theorem State.withWaiting_x (v : Bool) (st : State) : (st.withWaiting v).x = st.x := rfl
@[simp] theorem State.withWaiting_y (v : Bool) (st : State) : (st.withWaiting v).y = st.y := rfl
@[simp] theorem State.withWaiting_s (v : Bool) (st : State) : (st.withWaiting v).s = st.s := rfl
@[simp] theorem State.withWaiting_pc (v : Bool) (st : State) : (st.withWaiting v).pc = st.pc := rfl
@[simp] theorem State.withWaiting_p (v : Bool) (st : State) : (st.withWaiting v).p = st.p := rfl
@[simp] theorem State.withWaiting_stopped (v : Bool) (st : State) : (st.withWaiting v).stopped = st.stopped := rfl
@[simp] theorem State.withWaiting_faultReason (v : Bool) (st : State) : (st.withWaiting v).faultReason = st.faultReason := rfl
@[simp] theorem State.withWaiting_waiting (v : Bool) (st : State) : (st.withWaiting v).waiting = v := rfl
@[simp] theorem State.withWaiting_stp (v : Bool) (st : State) : (st.withWaiting v).stp = st.stp := rfl
@[simp] theorem State.withWaiting_nmiPending (v : Bool) (st : State) : (st.withWaiting v).nmiPending = st.nmiPending := rfl
@[simp] theorem State.withWaiting_irqPending (v : Bool) (st : State) : (st.withWaiting v).irqPending = st.irqPending := rfl
@[simp] theorem State.withWaiting_ticks (v : Bool) (st : State) : (st.withWaiting v).ticks = st.ticks := rfl
@[simp] theorem State.withWaiting_devices (v : Bool) (st : State) : (st.withWaiting v).devices = st.devices := rfl
@[simp] theorem State.withWaiting_breakpoints (v : Bool) (st : State) : (st.withWaiting v).breakpoints = st.breakpoints := rfl
@[simp] theorem State.withWaiting_runMode (v : Bool) (st : State) : (st.withWaiting v).runMode = st.runMode := rfl
@[simp] theorem State.withWaiting_events (v : Bool) (st : State) : (st.withWaiting v).events = st.events := rfl
@[simp] theorem State.withWaiting_cfg (v : Bool) (st : State) : (st.withWaiting v).cfg = st.cfg := rfl

@[simp] theorem State.withStp_a (v : Bool) (st : State) : (st.withStp v).a = st.a := rfl
@[simp] theorem State.withStp_x (v : Bool) (st : State) : (st.withStp v).x = st.x := rfl
@[simp] theorem State.withStp_y (v : Bool) (st : State) : (st.withStp v).y = st.y := rfl
@[simp] theorem State.withStp_s (v : Bool) (st : State) : (st.withStp v).s = st.s := rfl
@[simp] theorem State.withStp_pc (v : Bool) (st : State) : (st.withStp v).pc = st.pc := rfl
@[simp] theorem State.withStp_p (v : Bool) (st : State) : (st.withStp v).p = st.p := rfl
@[simp] theorem State.withStp_stopped (v : Bool) (st : State) : (st.withStp v).stopped = st.stopped := rfl
@[simp] theorem State.withStp_faultReason (v : Bool) (st : State) : (st.withStp v).faultReason = st.faultReason := rfl
@[simp] theorem State.withStp_waiting (v : Bool) (st : State) : (st.withStp v).waiting = st.waiting := rfl
@[simp] theorem State.withStp_stp (v : Bool) (st : State) : (st.withStp v).stp = v := rfl
@[simp] theorem State.withStp_nmiPending (v : Bool) (st : State) : (st.withStp v).nmiPending = st.nmiPending := rfl
@[simp] theorem State.withStp_irqPending (v : Bool) (st : State) : (st.withStp v).irqPending = st.irqPending := rfl
@[simp] theorem State.withStp_ticks (v : Bool) (st : State) : (st.withStp v).ticks = st.ticks := rfl
@[simp] theorem State.withStp_devices (v : Bool) (st : State) : (st.withStp v).devices = st.devices := rfl
@[simp] theorem State.withStp_breakpoints (v : Bool) (st : State) : (st.withStp v).breakpoints = st.breakpoints := rfl
@[simp] theorem State.withStp_runMode (v : Bool) (st : State) : (st.withStp v).runMode = st.runMode := rfl
@[simp] theorem State.withStp_events (v : Bool) (st : State) : (st.withStp v).events = st.events := rfl
@[simp] theorem State.withStp_cfg (v : Bool) (st : State) : (st.withStp v).cfg = st.cfg := rfl

@[simp] theorem State.withNmiPending_a (v : Bool) (st : State) : (st.withNmiPending v).a = st.a := rfl
@[simp] theorem State.withNmiPending_x (v : Bool) (st : State) : (st.withNmiPending v).x = st.x := rfl
@[simp] theorem State.withNmiPending_y (v : Bool) (st : State) : (st.withNmiPending v).y = st.y := rfl
@[simp] theorem State.withNmiPending_s (v : Bool) (st : State) : (st.withNmiPending v).s = st.s := rfl
@[simp] theorem State.withNmiPending_pc (v : Bool) (st : State) : (st.withNmiPending v).pc = st.pc := rfl
@[simp] theorem State.withNmiPending_p (v : Bool) (st : State) : (st.withNmiPending v).p = st.p := rfl
@[simp] theorem State.withNmiPending_stopped (v : Bool) (st : State) : (st.withNmiPending v).stopped = st.stopped := rfl
@[simp] theorem State.withNmiPending_faultReason (v : Bool) (st : State) : (st.withNmiPending v).faultReason = st.faultReason := rfl
@[simp] theorem State.withNmiPending_waiting (v : Bool) (st : State) : (st.withNmiPending v).waiting = st.waiting := rfl
@[simp] theorem State.withNmiPending_stp (v : Bool) (st : State) : (st.withNmiPending v).stp = st.stp := rfl
@[simp] theorem State.withNmiPending_nmiPending (v : Bool) (st : State) : (st.withNmiPending v).nmiPending = v := rfl
@[simp] theorem State.withNmiPending_irqPending (v : Bool) (st : State) : (st.withNmiPending v).irqPending = st.irqPending := rfl
@[simp] theorem State.withNmiPending_ticks (v : Bool) (st : State) : (st.withNmiPending v).ticks = st.ticks := rfl
@[simp] theorem State.withNmiPending_devices (v : Bool) (st : State) : (st.withNmiPending v).devices = st.devices := rfl
@[simp] theorem State.withNmiPending_breakpoints (v : Bool) (st : State) : (st.withNmiPending v).breakpoints = st.breakpoints := rfl
@[simp] theorem State.withNmiPending_runMode (v : Bool) (st : State) : (st.withNmiPending v).runMode = st.runMode := rfl
@[simp] theorem State.withNmiPending_events (v : Bool) (st : State) : (st.withNmiPending v).events = st.events := rfl
@[simp] theorem State.withNmiPending_cfg (v : Bool) (st : State) : (st.withNmiPending v).cfg = st.cfg := rfl

@[simp] theorem State.withIrqPending_a (v : Bool) (st : State) : (st.withIrqPending v).a = st.a := rfl
@[simp] theorem State.withIrqPending_x (v : Bool) (st : State) : (st.withIrqPending v).x = st.x := rfl
@[simp] theorem State.withIrqPending_y (v : Bool) (st : State) : (st.withIrqPending v).y = st.y := rfl
@[simp] theorem State.withIrqPending_s (v : Bool) (st : State) : (st.withIrqPending v).s = st.s := rfl
@[simp] theorem State.withIrqPending_pc (v : Bool) (st : State) : (st.withIrqPending v).pc = st.pc := rfl
@[simp] theorem State.withIrqPending_p (v : Bool) (st : State) : (st.withIrqPending v).p = st.p := rfl
@[simp] theorem State.withIrqPending_stopped (v : Bool) (st : State) : (st.withIrqPending v).stopped = st.stopped := rfl
@[simp] theorem State.withIrqPending_faultReason (v : Bool) (st : State) : (st.withIrqPending v).faultReason = st.faultReason := rfl
@[simp] theorem State.withIrqPending_waiting (v : Bool) (st : State) : (st.withIrqPending v).waiting = st.waiting := rfl
@[simp] theorem State.withIrqPending_stp (v : Bool) (st : State) : (st.withIrqPending v).stp = st.stp := rfl
@[simp] theorem State.withIrqPending_nmiPending (v : Bool) (st : State) : (st.withIrqPending v).nmiPending = st.nmiPending := rfl
@[simp] theorem State.withIrqPending_irqPending (v : Bool) (st : State) : (st.withIrqPending v).irqPending = v := rfl
@[simp] theorem State.withIrqPending_ticks (v : Bool) (st : State) : (st.withIrqPending v).ticks = st.ticks := rfl
@[simp] theorem State.withIrqPending_devices (v : Bool) (st : State) : (st.withIrqPending v).devices = st.devices := rfl
@[simp] theorem State.withIrqPending_breakpoints (v : Bool) (st : State) : (st.withIrqPending v).breakpoints = st.breakpoints := rfl
@[simp] theorem State.withIrqPending_runMode (v : Bool) (st : State) : (st.withIrqPending v).runMode = st.runMode := rfl
@[simp] theorem State.withIrqPending_events (v : Bool) (st : State) : (st.withIrqPending v).events = st.events := rfl
@[simp] theorem State.withIrqPending_cfg (v : Bool) (st : State) : (st.withIrqPending v).cfg = st.cfg := rfl

@[simp] theorem State.withDevices_a (v : List Device) (st : State) : (st.withDevices v).a = st.a := rfl
@[simp] theorem State.withDevices_x (v : List Device) (st : State) : (st.withDevices v).x = st.x := rfl
@[simp] theorem State.withDevices_y (v : List Device) (st : State) : (st.withDevices v).y = st.y := rfl
@[simp] theorem State.withDevices_s (v : List Device) (st : State) : (st.withDevices v).s = st.s := rfl
@[simp] theorem State.withDevices_pc (v : List Device) (st : State) : (st.withDevices v).pc = st.pc := rfl
@[simp] theorem State.withDevices_p (v : List Device) (st : State) : (st.withDevices v).p = st.p := rfl
@[simp] theorem State.withDevices_stopped (v : List Device) (st : State) : (st.withDevices v).stopped = st.stopped := rfl
@[simp] theorem State.withDevices_faultReason (v : List Device) (st : State) : (st.withDevices v).faultReason = st.faultReason := rfl
@[simp] theorem State.withDevices_waiting (v : List Device) (st : State) : (st.withDevices v).waiting = st.waiting := rfl
@[simp] theorem State.withDevices_stp (v : List Device) (st : State) : (st.withDevices v).stp = st.stp := rfl
@[simp] theorem State.withDevices_nmiPending (v : List Device) (st : State) : (st.withDevices v).nmiPending = st.nmiPending := rfl
@[simp] theorem State.withDevices_irqPending (v : List Device) (st : State) : (st.withDevices v).irqPending = st.irqPending := rfl
@[simp] theorem State.withDevices_ticks (v : List Device) (st : State) : (st.withDevices v).ticks = st.ticks := rfl
@[simp] theorem State.withDevices_devices (v : List Device) (st : State) : (st.withDevices v).devices = v := rfl
@[simp] theorem State.withDevices_breakpoints (v : List Device) (st : State) : (st.withDevices v).breakpoints = st.breakpoints := rfl
@[simp] theorem State.withDevices_runMode (v : List Device) (st : State) : (st.withDevices v).runMode = st.runMode := rfl
@[simp] theorem State.withDevices_events (v : List Device) (st : State) : (st.withDevices v).events = st.events := rfl
@[simp] theorem State.withDevices_cfg (v : List Device) (st : State) : (st.withDevices v).cfg = st.cfg := rfl

@[simp] theorem State.tick_a (st : State) : (st.tick).a = st.a := rfl
@[simp] theorem State.tick_x (st : State) : (st.tick).x = st.x := rfl
@[simp] theorem State.tick_y (st : State) : (st.tick).y = st.y := rfl
@[simp] theorem State.tick_s (st : State) : (st.tick).s = st.s := rfl
@[simp] theorem State.tick_pc (st : State) : (st.tick).pc = st.pc := rfl
@[simp] theorem State.tick_p (st : State) : (st.tick).p = st.p := rfl
@[simp] theorem State.tick_stopped (st : State) : (st.tick).stopped = st.stopped := rfl
@[simp] theorem State.tick_faultReason (st : State) : (st.tick).faultReason = st.faultReason := rfl
@[simp] theorem State.tick_waiting (st : State) : (st.tick).waiting = st.waiting := rfl
@[simp] theorem State.tick_stp (st : State) : (st.tick).stp = st.stp := rfl
@[simp] theorem State.tick_nmiPending (st : State) : (st.tick).nmiPending = st.nmiPending := rfl
@[simp] theorem State.tick_irqPending (st : State) : (st.tick).irqPending = st.irqPending := rfl
@[simp] theorem State.tick_ticks (st : State) : (st.tick).ticks = st.ticks + 1 := rfl
@[simp] theorem State.tick_devices (st : State) : (st.tick).devices = st.devices := rfl
@[simp] theorem State.tick_breakpoints (st : State) : (st.tick).breakpoints = st.breakpoints := rfl
@[simp] theorem State.tick_runMode (st : State) : (st.tick).runMode = st.runMode := rfl
@[simp] theorem State.tick_events (st : State) : (st.tick).events = st.events := rfl
@[simp] theorem State.tick_cfg (st : State) : (st.tick).cfg = st.cfg := rfl

@[simp] theorem State.publish_a (e : Event) (st : State) : (st.publish e).a = st.a := rfl
@[simp] theorem State.publish_x (e : Event) (st : State) : (st.publish e).x = st.x := rfl
@[simp] theorem State.publish_y (e : Event) (st : State) : (st.publish e).y = st.y := rfl
@[simp] theorem State.publish_s (e : Event) (st : State) : (st.publish e).s = st.s := rfl
@[simp] theorem State.publish_pc (e : Event) (st : State) : (st.publish e).pc = st.pc := rfl
@[simp] theorem State.publish_p (e : Event) (st : State) : (st.publish e).p = st.p := rfl
@[simp] theorem State.publish_stopped (e : Event) (st : State) : (st.publish e).stopped = st.stopped := rfl
@[simp] theorem State.publish_faultReason (e : Event) (st : State) : (st.publish e).faultReason = st.faultReason := rfl
@[simp] theorem State.publish_waiting (e : Event) (st : State) : (st.publish e).waiting = st.waiting := rfl
@[simp] theorem State.publish_stp (e : Event) (st : State) : (st.publish e).stp = st.stp := rfl
@[simp] theorem State.publish_nmiPending (e : Event) (st : State) : (st.publish e).nmiPending = st.nmiPending := rfl
@[simp] theorem State.publish_irqPending (e : Event) (st : State) : (st.publish e).irqPending = st.irqPending := rfl
@[simp] theorem State.publish_ticks (e : Event) (st : State) : (st.publish e).ticks = st.ticks := rfl
@[simp] theorem State.publish_devices (e : Event) (st : State) : (st.publish e).devices = st.devices := rfl
@[simp] theorem State.publish_breakpoints (e : Event) (st : State) : (st.publish e).breakpoints = st.breakpoints := rfl
@[simp] theorem State.publish_runMode (e : Event) (st : State) : (st.publish e).runMode = st.runMode := rfl
@[simp] theorem State.publish_events (e : Event) (st : State) : (st.publish e).events = st.events ++ [e] := rfl
@[simp] theorem State.publish_cfg (e : Event) (st : State) : (st.publish e).cfg = st.cfg := rfl

@[simp] theorem State.latch_a (r : FaultReason) (st : State) : (st.latch r).a = st.a := rfl
@[simp] theorem State.latch_x (r : FaultReason) (st : State) : (st.latch r).x = st.x := rfl
@[simp] theorem State.latch_y (r : FaultReason) (st : State) : (st.latch r).y = st.y := rfl
@[simp] theorem State.latch_s (r : FaultReason) (st : State) : (st.latch r).s = st.s := rfl
@[simp] theorem State.latch_pc (r : FaultReason) (st : State) : (st.latch r).pc = st.pc := rfl
@[simp] theorem State.latch_p (r : FaultReason) (st : State) : (st.latch r).p = st.p := rfl
@[simp] theorem State.latch_stopped (r : FaultReason) (st : State) : (st.latch r).stopped = true := rfl
@[simp] theorem State.latch_faultReason (r : FaultReason) (st : State) : (st.latch r).faultReason = some r := rfl
@[simp] theorem State.latch_waiting (r : FaultReason) (st : State) : (st.latch r).waiting = st.waiting := rfl
@[simp] theorem State.latch_stp (r : FaultReason) (st : State) : (st.latch r).stp = st.stp := rfl
@[simp] theorem State.latch_nmiPending (r : FaultReason) (st : State) : (st.latch r).nmiPending = st.nmiPending := rfl
@[simp] theorem State.latch_irqPending (r : FaultReason) (st : State) : (st.latch r).irqPending = st.irqPending := rfl
@[simp] theorem State.latch_ticks (r : FaultReason) (st : State) : (st.latch r).ticks = st.ticks := rfl
@[simp] theorem State.latch_devices (r : FaultReason) (st : State) : (st.latch r).devices = st.devices := rfl
@[simp] theorem State.latch_breakpoints (r : FaultReason) (st : State) : (st.latch r).breakpoints = st.breakpoints := rfl
@[simp] theorem State.latch_runMode (r : FaultReason) (st : State) : (st.latch r).runMode = st.runMode := rfl
@[simp] theorem State.latch_events (r : FaultReason) (st : State) : (st.latch r).events = st.events ++ [.fault r st.pc] := rfl
@[simp] theorem State.latch_cfg (r : FaultReason) (st : State) : (st.latch r).cfg = st.cfg := rfl

@[simp] theorem State.withFlag_a (f : Flag) (on : Bool) (st : State) : (st.withFlag f on).a = st.a := rfl
@[simp] theorem State.withFlag_x (f : Flag) (on : Bool) (st : State) : (st.withFlag f on).x = st.x := rfl
@[simp] theorem State.withFlag_y (f : Flag) (on : Bool) (st : State) : (st.withFlag f on).y = st.y := rfl
@[simp] theorem State.withFlag_s (f : Flag) (on : Bool) (st : State) : (st.withFlag f on).s = st.s := rfl
@[simp] theorem State.withFlag_pc (f : Flag) (on : Bool) (st : State) : (st.withFlag f on).pc = st.pc := rfl
@[simp] theorem State.withFlag_p (f : Flag) (on : Bool) (st : State) : (st.withFlag f on).p = setFlag f on st.p ||| 0x20 := rfl
@[simp] theorem State.withFlag_stopped (f : Flag) (on : Bool) (st : State) : (st.withFlag f on).stopped = st.stopped := rfl
@[simp] theorem State.withFlag_faultReason (f : Flag) (on : Bool) (st : State) : (st.withFlag f on).faultReason = st.faultReason := rfl
@[simp] theorem State.withFlag_waiting (f : Flag) (on : Bool) (st : State) : (st.withFlag f on).waiting = st.waiting := rfl
@[simp] theorem State.withFlag_stp (f : Flag) (on : Bool) (st : State) : (st.withFlag f on).stp = st.stp := rfl
@[simp] theorem State.withFlag_nmiPending (f : Flag) (on : Bool) (st : State) : (st.withFlag f on).nmiPending = st.nmiPending := rfl
@[simp] theorem State.withFlag_irqPending (f : Flag) (on : Bool) (st : State) : (st.withFlag f on).irqPending = st.irqPending := rfl
@[simp] theorem State.withFlag_ticks (f : Flag) (on : Bool) (st : State) : (st.withFlag f on).ticks = st.ticks := rfl
@[simp] theorem State.withFlag_devices (f : Flag) (on : Bool) (st : State) : (st.withFlag f on).devices = st.devices := rfl
@[simp] theorem State.withFlag_breakpoints (f : Flag) (on : Bool) (st : State) : (st.withFlag f on).breakpoints = st.breakpoints := rfl
@[simp] theorem State.withFlag_runMode (f : Flag) (on : Bool) (st : State) : (st.withFlag f on).runMode = st.runMode := rfl
@[simp] theorem State.withFlag_events (f : Flag) (on : Bool) (st : State) : (st.withFlag f on).events = st.events := rfl
@[simp] theorem State.withFlag_cfg (f : Flag) (on : Bool) (st : State) : (st.withFlag f on).cfg = st.cfg := rfl

@[simp] theorem State.setNZ_a (v : Byte) (st : State) : (st.setNZ v).a = st.a := rfl
@[simp] theorem State.setNZ_x (v : Byte) (st : State) : (st.setNZ v).x = st.x := rfl
@[simp] theorem State.setNZ_y (v : Byte) (st : State) : (st.setNZ v).y = st.y := rfl
@[simp] theorem State.setNZ_s (v : Byte) (st : State) : (st.setNZ v).s = st.s := rfl
@[simp] theorem State.setNZ_pc (v : Byte) (st : State) : (st.setNZ v).pc = st.pc := rfl
@[simp] theorem State.setNZ_p (v : Byte) (st : State) : (st.setNZ v).p = statusNZ v st.p ||| 0x20 := rfl
@[simp] theorem State.setNZ_stopped (v : Byte) (st : State) : (st.setNZ v).stopped = st.stopped := rfl
@[simp] theorem State.setNZ_faultReason (v : Byte) (st : State) : (st.setNZ v).faultReason = st.faultReason := rfl
@[simp] theorem State.setNZ_waiting (v : Byte) (st : State) : (st.setNZ v).waiting = st.waiting := rfl
@[simp] theorem State.setNZ_stp (v : Byte) (st : State) : (st.setNZ v).stp = st.stp := rfl
@[simp] theorem State.setNZ_nmiPending (v : Byte) (st : State) : (st.setNZ v).nmiPending = st.nmiPending := rfl
@[simp] theorem State.setNZ_irqPending (v : Byte) (st : State) : (st.setNZ v).irqPending = st.irqPending := rfl
@[simp] theorem State.setNZ_ticks (v : Byte) (st : State) : (st.setNZ v).ticks = st.ticks := rfl
@[simp] theorem State.setNZ_devices (v : Byte) (st : State) : (st.setNZ v).devices = st.devices := rfl
@[simp] theorem State.setNZ_breakpoints (v : Byte) (st : State) : (st.setNZ v).breakpoints = st.breakpoints := rfl
@[simp] theorem State.setNZ_runMode (v : Byte) (st : State) : (st.setNZ v).runMode = st.runMode := rfl
@[simp] theorem State.setNZ_events (v : Byte) (st : State) : (st.setNZ v).events = st.events := rfl
@[simp] theorem State.setNZ_cfg (v : Byte) (st : State) : (st.setNZ v).cfg = st.cfg := rfl

@[simp] theorem State.compare_a (reg m : Byte) (st : State) : (st.compare reg m).a = st.a := rfl
@[simp] theorem State.compare_x (reg m : Byte) (st : State) : (st.compare reg m).x = st.x := rfl
@[simp] theorem State.compare_y (reg m : Byte) (st : State) : (st.compare reg m).y = st.y := rfl
@[simp] theorem State.compare_s (reg m : Byte) (st : State) : (st.compare reg m).s = st.s := rfl
@[simp] theorem State.compare_pc (reg m : Byte) (st : State) : (st.compare reg m).pc = st.pc := rfl
@[simp] theorem State.compare_p (reg m : Byte) (st : State) : (st.compare reg m).p = statusCompare reg m st.p ||| 0x20 := rfl
@[simp] theorem State.compare_stopped (reg m : Byte) (st : State) : (st.compare reg m).stopped = st.stopped := rfl
@[simp] theorem State.compare_faultReason (reg m : Byte) (st : State) : (st.compare reg m).faultReason = st.faultReason := rfl
@[simp] theorem State.compare_waiting (reg m : Byte) (st : State) : (st.compare reg m).waiting = st.waiting := rfl
@[simp] theorem State.compare_stp (reg m : Byte) (st : State) : (st.compare reg m).stp = st.stp := rfl
@[simp] theorem State.compare_nmiPending (reg m : Byte) (st : State) : (st.compare reg m).nmiPending = st.nmiPending := rfl
@[simp] theorem State.compare_irqPending (reg m : Byte) (st : State) : (st.compare reg m).irqPending = st.irqPending := rfl
@[simp] theorem State.compare_ticks (reg m : Byte) (st : State) : (st.compare reg m).ticks = st.ticks := rfl
@[simp] theorem State.compare_devices (reg m : Byte) (st : State) : (st.compare reg m).devices = st.devices := rfl
@[simp] theorem State.compare_breakpoints (reg m : Byte) (st : State) : (st.compare reg m).breakpoints = st.breakpoints := rfl
@[simp] theorem State.compare_runMode (reg m : Byte) (st : State) : (st.compare reg m).runMode = st.runMode := rfl
@[simp] theorem State.compare_events (reg m : Byte) (st : State) : (st.compare reg m).events = st.events := rfl
@[simp] theorem State.compare_cfg (reg m : Byte) (st : State) : (st.compare reg m).cfg = st.cfg := rfl

@[simp] theorem State.withAlu_a (res : AluResult) (st : State) : (st.withAlu res).a = res.r := rfl
@[simp] theorem State.withAlu_x (res : AluResult) (st : State) : (st.withAlu res).x = st.x := rfl
@[simp] theorem State.withAlu_y (res : AluResult) (st : State) : (st.withAlu res).y = st.y := rfl
@[simp] theorem State.withAlu_s (res : AluResult) (st : State) : (st.withAlu res).s = st.s := rfl
@[simp] theorem State.withAlu_pc (res : AluResult) (st : State) : (st.withAlu res).pc = st.pc := rfl
@[simp] theorem State.withAlu_p (res : AluResult) (st : State) : (st.withAlu res).p = statusAlu res st.p ||| 0x20 := rfl
@[simp] theorem State.withAlu_stopped (res : AluResult) (st : State) : (st.withAlu res).stopped = st.stopped := rfl
@[simp] theorem State.withAlu_faultReason (res : AluResult) (st : State) : (st.withAlu res).faultReason = st.faultReason := rfl
@[simp] theorem State.withAlu_waiting (res : AluResult) (st : State) : (st.withAlu res).waiting = st.waiting := rfl
@[simp] theorem State.withAlu_stp (res : AluResult) (st : State) : (st.withAlu res).stp = st.stp := rfl
@[simp] theorem State.withAlu_nmiPending (res : AluResult) (st : State) : (st.withAlu res).nmiPending = st.nmiPending := rfl
@[simp] theorem State.withAlu_irqPending (res : AluResult) (st : State) : (st.withAlu res).irqPending = st.irqPending := rfl
@[simp] theorem State.withAlu_ticks (res : AluResult) (st : State) : (st.withAlu res).ticks = st.ticks := rfl
@[simp] theorem State.withAlu_devices (res : AluResult) (st : State) : (st.withAlu res).devices = st.devices := rfl
@[simp] theorem State.withAlu_breakpoints (res : AluResult) (st : State) : (st.withAlu res).breakpoints = st.breakpoints := rfl
@[simp] theorem State.withAlu_runMode (res : AluResult) (st : State) : (st.withAlu res).runMode = st.runMode := rfl
@[simp] theorem State.withAlu_events (res : AluResult) (st : State) : (st.withAlu res).events = st.events := rfl
@[simp] theorem State.withAlu_cfg (res : AluResult) (st : State) : (st.withAlu res).cfg = st.cfg := rfl

end Sys2Proof.Machine
end

