-- ==== Sys2Proof/Laws/Ops.lean ====
section
/-! SUPPORT. What each shared operation over the bus, the stack and the program counter does, said once. -/

namespace Sys2Proof.Machine

/-! ## Reads change the tick counter and the devices' histories alone -/

@[simp] theorem State.busRead_a (addr : Word) (st : State) : (st.busRead addr).2.a = st.a := by simp [State.busRead]
@[simp] theorem State.busRead_x (addr : Word) (st : State) : (st.busRead addr).2.x = st.x := by simp [State.busRead]
@[simp] theorem State.busRead_y (addr : Word) (st : State) : (st.busRead addr).2.y = st.y := by simp [State.busRead]
@[simp] theorem State.busRead_s (addr : Word) (st : State) : (st.busRead addr).2.s = st.s := by simp [State.busRead]
@[simp] theorem State.busRead_pc (addr : Word) (st : State) : (st.busRead addr).2.pc = st.pc := by simp [State.busRead]
@[simp] theorem State.busRead_p (addr : Word) (st : State) : (st.busRead addr).2.p = st.p := by simp [State.busRead]
@[simp] theorem State.busRead_stopped (addr : Word) (st : State) : (st.busRead addr).2.stopped = st.stopped := by simp [State.busRead]
@[simp] theorem State.busRead_faultReason (addr : Word) (st : State) : (st.busRead addr).2.faultReason = st.faultReason := by simp [State.busRead]
@[simp] theorem State.busRead_waiting (addr : Word) (st : State) : (st.busRead addr).2.waiting = st.waiting := by simp [State.busRead]
@[simp] theorem State.busRead_stp (addr : Word) (st : State) : (st.busRead addr).2.stp = st.stp := by simp [State.busRead]
@[simp] theorem State.busRead_nmiPending (addr : Word) (st : State) : (st.busRead addr).2.nmiPending = st.nmiPending := by simp [State.busRead]
@[simp] theorem State.busRead_irqPending (addr : Word) (st : State) : (st.busRead addr).2.irqPending = st.irqPending := by simp [State.busRead]
@[simp] theorem State.busRead_breakpoints (addr : Word) (st : State) : (st.busRead addr).2.breakpoints = st.breakpoints := by simp [State.busRead]
@[simp] theorem State.busRead_runMode (addr : Word) (st : State) : (st.busRead addr).2.runMode = st.runMode := by simp [State.busRead]
@[simp] theorem State.busRead_events (addr : Word) (st : State) : (st.busRead addr).2.events = st.events := by simp [State.busRead]
@[simp] theorem State.busRead_cfg (addr : Word) (st : State) : (st.busRead addr).2.cfg = st.cfg := by simp [State.busRead]

@[simp] theorem State.memRead_a (addr : Word) (st : State) : (st.memRead addr).2.a = st.a := by simp [State.memRead]
@[simp] theorem State.memRead_x (addr : Word) (st : State) : (st.memRead addr).2.x = st.x := by simp [State.memRead]
@[simp] theorem State.memRead_y (addr : Word) (st : State) : (st.memRead addr).2.y = st.y := by simp [State.memRead]
@[simp] theorem State.memRead_s (addr : Word) (st : State) : (st.memRead addr).2.s = st.s := by simp [State.memRead]
@[simp] theorem State.memRead_pc (addr : Word) (st : State) : (st.memRead addr).2.pc = st.pc := by simp [State.memRead]
@[simp] theorem State.memRead_p (addr : Word) (st : State) : (st.memRead addr).2.p = st.p := by simp [State.memRead]
@[simp] theorem State.memRead_stopped (addr : Word) (st : State) : (st.memRead addr).2.stopped = st.stopped := by simp [State.memRead]
@[simp] theorem State.memRead_faultReason (addr : Word) (st : State) : (st.memRead addr).2.faultReason = st.faultReason := by simp [State.memRead]
@[simp] theorem State.memRead_waiting (addr : Word) (st : State) : (st.memRead addr).2.waiting = st.waiting := by simp [State.memRead]
@[simp] theorem State.memRead_stp (addr : Word) (st : State) : (st.memRead addr).2.stp = st.stp := by simp [State.memRead]
@[simp] theorem State.memRead_nmiPending (addr : Word) (st : State) : (st.memRead addr).2.nmiPending = st.nmiPending := by simp [State.memRead]
@[simp] theorem State.memRead_irqPending (addr : Word) (st : State) : (st.memRead addr).2.irqPending = st.irqPending := by simp [State.memRead]
@[simp] theorem State.memRead_breakpoints (addr : Word) (st : State) : (st.memRead addr).2.breakpoints = st.breakpoints := by simp [State.memRead]
@[simp] theorem State.memRead_runMode (addr : Word) (st : State) : (st.memRead addr).2.runMode = st.runMode := by simp [State.memRead]
@[simp] theorem State.memRead_events (addr : Word) (st : State) : (st.memRead addr).2.events = st.events := by simp [State.memRead]
@[simp] theorem State.memRead_cfg (addr : Word) (st : State) : (st.memRead addr).2.cfg = st.cfg := by simp [State.memRead]

@[simp] theorem State.memRead16_a (addr : Word) (st : State) : (st.memRead16 addr).2.a = st.a := by simp [State.memRead16]
@[simp] theorem State.memRead16_x (addr : Word) (st : State) : (st.memRead16 addr).2.x = st.x := by simp [State.memRead16]
@[simp] theorem State.memRead16_y (addr : Word) (st : State) : (st.memRead16 addr).2.y = st.y := by simp [State.memRead16]
@[simp] theorem State.memRead16_s (addr : Word) (st : State) : (st.memRead16 addr).2.s = st.s := by simp [State.memRead16]
@[simp] theorem State.memRead16_pc (addr : Word) (st : State) : (st.memRead16 addr).2.pc = st.pc := by simp [State.memRead16]
@[simp] theorem State.memRead16_p (addr : Word) (st : State) : (st.memRead16 addr).2.p = st.p := by simp [State.memRead16]
@[simp] theorem State.memRead16_stopped (addr : Word) (st : State) : (st.memRead16 addr).2.stopped = st.stopped := by simp [State.memRead16]
@[simp] theorem State.memRead16_faultReason (addr : Word) (st : State) : (st.memRead16 addr).2.faultReason = st.faultReason := by simp [State.memRead16]
@[simp] theorem State.memRead16_waiting (addr : Word) (st : State) : (st.memRead16 addr).2.waiting = st.waiting := by simp [State.memRead16]
@[simp] theorem State.memRead16_stp (addr : Word) (st : State) : (st.memRead16 addr).2.stp = st.stp := by simp [State.memRead16]
@[simp] theorem State.memRead16_nmiPending (addr : Word) (st : State) : (st.memRead16 addr).2.nmiPending = st.nmiPending := by simp [State.memRead16]
@[simp] theorem State.memRead16_irqPending (addr : Word) (st : State) : (st.memRead16 addr).2.irqPending = st.irqPending := by simp [State.memRead16]
@[simp] theorem State.memRead16_breakpoints (addr : Word) (st : State) : (st.memRead16 addr).2.breakpoints = st.breakpoints := by simp [State.memRead16]
@[simp] theorem State.memRead16_runMode (addr : Word) (st : State) : (st.memRead16 addr).2.runMode = st.runMode := by simp [State.memRead16]
@[simp] theorem State.memRead16_events (addr : Word) (st : State) : (st.memRead16 addr).2.events = st.events := by simp [State.memRead16]
@[simp] theorem State.memRead16_cfg (addr : Word) (st : State) : (st.memRead16 addr).2.cfg = st.cfg := by simp [State.memRead16]

@[simp] theorem State.zpRead16_a (z : Byte) (st : State) : (st.zpRead16 z).2.a = st.a := by simp [State.zpRead16]
@[simp] theorem State.zpRead16_x (z : Byte) (st : State) : (st.zpRead16 z).2.x = st.x := by simp [State.zpRead16]
@[simp] theorem State.zpRead16_y (z : Byte) (st : State) : (st.zpRead16 z).2.y = st.y := by simp [State.zpRead16]
@[simp] theorem State.zpRead16_s (z : Byte) (st : State) : (st.zpRead16 z).2.s = st.s := by simp [State.zpRead16]
@[simp] theorem State.zpRead16_pc (z : Byte) (st : State) : (st.zpRead16 z).2.pc = st.pc := by simp [State.zpRead16]
@[simp] theorem State.zpRead16_p (z : Byte) (st : State) : (st.zpRead16 z).2.p = st.p := by simp [State.zpRead16]
@[simp] theorem State.zpRead16_stopped (z : Byte) (st : State) : (st.zpRead16 z).2.stopped = st.stopped := by simp [State.zpRead16]
@[simp] theorem State.zpRead16_faultReason (z : Byte) (st : State) : (st.zpRead16 z).2.faultReason = st.faultReason := by simp [State.zpRead16]
@[simp] theorem State.zpRead16_waiting (z : Byte) (st : State) : (st.zpRead16 z).2.waiting = st.waiting := by simp [State.zpRead16]
@[simp] theorem State.zpRead16_stp (z : Byte) (st : State) : (st.zpRead16 z).2.stp = st.stp := by simp [State.zpRead16]
@[simp] theorem State.zpRead16_nmiPending (z : Byte) (st : State) : (st.zpRead16 z).2.nmiPending = st.nmiPending := by simp [State.zpRead16]
@[simp] theorem State.zpRead16_irqPending (z : Byte) (st : State) : (st.zpRead16 z).2.irqPending = st.irqPending := by simp [State.zpRead16]
@[simp] theorem State.zpRead16_breakpoints (z : Byte) (st : State) : (st.zpRead16 z).2.breakpoints = st.breakpoints := by simp [State.zpRead16]
@[simp] theorem State.zpRead16_runMode (z : Byte) (st : State) : (st.zpRead16 z).2.runMode = st.runMode := by simp [State.zpRead16]
@[simp] theorem State.zpRead16_events (z : Byte) (st : State) : (st.zpRead16 z).2.events = st.events := by simp [State.zpRead16]
@[simp] theorem State.zpRead16_cfg (z : Byte) (st : State) : (st.zpRead16 z).2.cfg = st.cfg := by simp [State.zpRead16]

@[simp] theorem effectiveAddress_a (o : MemOperand) (st : State) : (effectiveAddress o st).2.a = st.a := by cases o <;> simp [effectiveAddress]
@[simp] theorem effectiveAddress_x (o : MemOperand) (st : State) : (effectiveAddress o st).2.x = st.x := by cases o <;> simp [effectiveAddress]
@[simp] theorem effectiveAddress_y (o : MemOperand) (st : State) : (effectiveAddress o st).2.y = st.y := by cases o <;> simp [effectiveAddress]
@[simp] theorem effectiveAddress_s (o : MemOperand) (st : State) : (effectiveAddress o st).2.s = st.s := by cases o <;> simp [effectiveAddress]
@[simp] theorem effectiveAddress_pc (o : MemOperand) (st : State) : (effectiveAddress o st).2.pc = st.pc := by cases o <;> simp [effectiveAddress]
@[simp] theorem effectiveAddress_p (o : MemOperand) (st : State) : (effectiveAddress o st).2.p = st.p := by cases o <;> simp [effectiveAddress]
@[simp] theorem effectiveAddress_stopped (o : MemOperand) (st : State) : (effectiveAddress o st).2.stopped = st.stopped := by cases o <;> simp [effectiveAddress]
@[simp] theorem effectiveAddress_faultReason (o : MemOperand) (st : State) : (effectiveAddress o st).2.faultReason = st.faultReason := by cases o <;> simp [effectiveAddress]
@[simp] theorem effectiveAddress_waiting (o : MemOperand) (st : State) : (effectiveAddress o st).2.waiting = st.waiting := by cases o <;> simp [effectiveAddress]
@[simp] theorem effectiveAddress_stp (o : MemOperand) (st : State) : (effectiveAddress o st).2.stp = st.stp := by cases o <;> simp [effectiveAddress]
@[simp] theorem effectiveAddress_nmiPending (o : MemOperand) (st : State) : (effectiveAddress o st).2.nmiPending = st.nmiPending := by cases o <;> simp [effectiveAddress]
@[simp] theorem effectiveAddress_irqPending (o : MemOperand) (st : State) : (effectiveAddress o st).2.irqPending = st.irqPending := by cases o <;> simp [effectiveAddress]
@[simp] theorem effectiveAddress_breakpoints (o : MemOperand) (st : State) : (effectiveAddress o st).2.breakpoints = st.breakpoints := by cases o <;> simp [effectiveAddress]
@[simp] theorem effectiveAddress_runMode (o : MemOperand) (st : State) : (effectiveAddress o st).2.runMode = st.runMode := by cases o <;> simp [effectiveAddress]
@[simp] theorem effectiveAddress_events (o : MemOperand) (st : State) : (effectiveAddress o st).2.events = st.events := by cases o <;> simp [effectiveAddress]
@[simp] theorem effectiveAddress_cfg (o : MemOperand) (st : State) : (effectiveAddress o st).2.cfg = st.cfg := by cases o <;> simp [effectiveAddress]

@[simp] theorem readSource_a (src : Source) (st : State) : (readSource src st).2.a = st.a := by cases src <;> simp [readSource]
@[simp] theorem readSource_x (src : Source) (st : State) : (readSource src st).2.x = st.x := by cases src <;> simp [readSource]
@[simp] theorem readSource_y (src : Source) (st : State) : (readSource src st).2.y = st.y := by cases src <;> simp [readSource]
@[simp] theorem readSource_s (src : Source) (st : State) : (readSource src st).2.s = st.s := by cases src <;> simp [readSource]
@[simp] theorem readSource_pc (src : Source) (st : State) : (readSource src st).2.pc = st.pc := by cases src <;> simp [readSource]
@[simp] theorem readSource_p (src : Source) (st : State) : (readSource src st).2.p = st.p := by cases src <;> simp [readSource]
@[simp] theorem readSource_stopped (src : Source) (st : State) : (readSource src st).2.stopped = st.stopped := by cases src <;> simp [readSource]
@[simp] theorem readSource_faultReason (src : Source) (st : State) : (readSource src st).2.faultReason = st.faultReason := by cases src <;> simp [readSource]
@[simp] theorem readSource_waiting (src : Source) (st : State) : (readSource src st).2.waiting = st.waiting := by cases src <;> simp [readSource]
@[simp] theorem readSource_stp (src : Source) (st : State) : (readSource src st).2.stp = st.stp := by cases src <;> simp [readSource]
@[simp] theorem readSource_nmiPending (src : Source) (st : State) : (readSource src st).2.nmiPending = st.nmiPending := by cases src <;> simp [readSource]
@[simp] theorem readSource_irqPending (src : Source) (st : State) : (readSource src st).2.irqPending = st.irqPending := by cases src <;> simp [readSource]
@[simp] theorem readSource_breakpoints (src : Source) (st : State) : (readSource src st).2.breakpoints = st.breakpoints := by cases src <;> simp [readSource]
@[simp] theorem readSource_runMode (src : Source) (st : State) : (readSource src st).2.runMode = st.runMode := by cases src <;> simp [readSource]
@[simp] theorem readSource_events (src : Source) (st : State) : (readSource src st).2.events = st.events := by cases src <;> simp [readSource]
@[simp] theorem readSource_cfg (src : Source) (st : State) : (readSource src st).2.cfg = st.cfg := by cases src <;> simp [readSource]

@[simp] theorem readTarget_a (o : MemOperand) (st : State) : (readTarget o st).st.a = st.a := by simp [readTarget]
@[simp] theorem readTarget_x (o : MemOperand) (st : State) : (readTarget o st).st.x = st.x := by simp [readTarget]
@[simp] theorem readTarget_y (o : MemOperand) (st : State) : (readTarget o st).st.y = st.y := by simp [readTarget]
@[simp] theorem readTarget_s (o : MemOperand) (st : State) : (readTarget o st).st.s = st.s := by simp [readTarget]
@[simp] theorem readTarget_pc (o : MemOperand) (st : State) : (readTarget o st).st.pc = st.pc := by simp [readTarget]
@[simp] theorem readTarget_p (o : MemOperand) (st : State) : (readTarget o st).st.p = st.p := by simp [readTarget]
@[simp] theorem readTarget_stopped (o : MemOperand) (st : State) : (readTarget o st).st.stopped = st.stopped := by simp [readTarget]
@[simp] theorem readTarget_faultReason (o : MemOperand) (st : State) : (readTarget o st).st.faultReason = st.faultReason := by simp [readTarget]
@[simp] theorem readTarget_waiting (o : MemOperand) (st : State) : (readTarget o st).st.waiting = st.waiting := by simp [readTarget]
@[simp] theorem readTarget_stp (o : MemOperand) (st : State) : (readTarget o st).st.stp = st.stp := by simp [readTarget]
@[simp] theorem readTarget_nmiPending (o : MemOperand) (st : State) : (readTarget o st).st.nmiPending = st.nmiPending := by simp [readTarget]
@[simp] theorem readTarget_irqPending (o : MemOperand) (st : State) : (readTarget o st).st.irqPending = st.irqPending := by simp [readTarget]
@[simp] theorem readTarget_breakpoints (o : MemOperand) (st : State) : (readTarget o st).st.breakpoints = st.breakpoints := by simp [readTarget]
@[simp] theorem readTarget_runMode (o : MemOperand) (st : State) : (readTarget o st).st.runMode = st.runMode := by simp [readTarget]
@[simp] theorem readTarget_events (o : MemOperand) (st : State) : (readTarget o st).st.events = st.events := by simp [readTarget]
@[simp] theorem readTarget_cfg (o : MemOperand) (st : State) : (readTarget o st).st.cfg = st.cfg := by simp [readTarget]

@[simp] theorem State.pull_a (st : State) : st.pull.2.a = st.a := by simp [State.pull]
@[simp] theorem State.pull_x (st : State) : st.pull.2.x = st.x := by simp [State.pull]
@[simp] theorem State.pull_y (st : State) : st.pull.2.y = st.y := by simp [State.pull]
@[simp] theorem State.pull_s (st : State) : st.pull.2.s = st.s + 1 := by simp [State.pull]
@[simp] theorem State.pull_pc (st : State) : st.pull.2.pc = st.pc := by simp [State.pull]
@[simp] theorem State.pull_p (st : State) : st.pull.2.p = st.p := by simp [State.pull]
@[simp] theorem State.pull_stopped (st : State) : st.pull.2.stopped = st.stopped := by simp [State.pull]
@[simp] theorem State.pull_faultReason (st : State) : st.pull.2.faultReason = st.faultReason := by simp [State.pull]
@[simp] theorem State.pull_waiting (st : State) : st.pull.2.waiting = st.waiting := by simp [State.pull]
@[simp] theorem State.pull_stp (st : State) : st.pull.2.stp = st.stp := by simp [State.pull]
@[simp] theorem State.pull_nmiPending (st : State) : st.pull.2.nmiPending = st.nmiPending := by simp [State.pull]
@[simp] theorem State.pull_irqPending (st : State) : st.pull.2.irqPending = st.irqPending := by simp [State.pull]
@[simp] theorem State.pull_breakpoints (st : State) : st.pull.2.breakpoints = st.breakpoints := by simp [State.pull]
@[simp] theorem State.pull_runMode (st : State) : st.pull.2.runMode = st.runMode := by simp [State.pull]
@[simp] theorem State.pull_events (st : State) : st.pull.2.events = st.events := by simp [State.pull]
@[simp] theorem State.pull_cfg (st : State) : st.pull.2.cfg = st.cfg := by simp [State.pull]

@[simp] theorem State.pullWord_a (st : State) : st.pullWord.2.a = st.a := by simp [State.pullWord]
@[simp] theorem State.pullWord_x (st : State) : st.pullWord.2.x = st.x := by simp [State.pullWord]
@[simp] theorem State.pullWord_y (st : State) : st.pullWord.2.y = st.y := by simp [State.pullWord]
@[simp] theorem State.pullWord_s (st : State) : st.pullWord.2.s = st.s + 1 + 1 := by simp [State.pullWord]
@[simp] theorem State.pullWord_pc (st : State) : st.pullWord.2.pc = st.pc := by simp [State.pullWord]
@[simp] theorem State.pullWord_p (st : State) : st.pullWord.2.p = st.p := by simp [State.pullWord]
@[simp] theorem State.pullWord_stopped (st : State) : st.pullWord.2.stopped = st.stopped := by simp [State.pullWord]
@[simp] theorem State.pullWord_faultReason (st : State) : st.pullWord.2.faultReason = st.faultReason := by simp [State.pullWord]
@[simp] theorem State.pullWord_waiting (st : State) : st.pullWord.2.waiting = st.waiting := by simp [State.pullWord]
@[simp] theorem State.pullWord_stp (st : State) : st.pullWord.2.stp = st.stp := by simp [State.pullWord]
@[simp] theorem State.pullWord_nmiPending (st : State) : st.pullWord.2.nmiPending = st.nmiPending := by simp [State.pullWord]
@[simp] theorem State.pullWord_irqPending (st : State) : st.pullWord.2.irqPending = st.irqPending := by simp [State.pullWord]
@[simp] theorem State.pullWord_breakpoints (st : State) : st.pullWord.2.breakpoints = st.breakpoints := by simp [State.pullWord]
@[simp] theorem State.pullWord_runMode (st : State) : st.pullWord.2.runMode = st.runMode := by simp [State.pullWord]
@[simp] theorem State.pullWord_events (st : State) : st.pullWord.2.events = st.events := by simp [State.pullWord]
@[simp] theorem State.pullWord_cfg (st : State) : st.pullWord.2.cfg = st.cfg := by simp [State.pullWord]

/-! ## Ticks of the reads -/

@[simp] theorem State.busRead_ticks (a : Word) (st : State) : (st.busRead a).2.ticks = st.ticks := by simp [State.busRead]
@[simp] theorem State.memRead_ticks (a : Word) (st : State) : (st.memRead a).2.ticks = st.ticks + 1 := by simp [State.memRead]
@[simp] theorem State.memRead16_ticks (a : Word) (st : State) : (st.memRead16 a).2.ticks = st.ticks + 2 := by simp [State.memRead16]
@[simp] theorem State.zpRead16_ticks (z : Byte) (st : State) : (st.zpRead16 z).2.ticks = st.ticks + 2 := by simp [State.zpRead16]
@[simp] theorem State.pull_ticks (st : State) : st.pull.2.ticks = st.ticks + 1 := by simp [State.pull]
@[simp] theorem State.pullWord_ticks (st : State) : st.pullWord.2.ticks = st.ticks + 2 := by simp [State.pullWord]

/-- The attributes of the devices, in subscription order. -/
def State.attrs (st : State) : List DeviceAttr := st.devices.map (·.attr)

/-! ## Updates that touch no device -/

@[simp] theorem State.withA_peek (v : Byte) (b : Word) (st : State) : (st.withA v).peek b = st.peek b := rfl
@[simp] theorem State.withA_writable (v : Byte) (b : Word) (st : State) : (st.withA v).writable b = st.writable b := rfl
@[simp] theorem State.withA_isRam (v : Byte) (b : Word) (st : State) : (st.withA v).isRam b = st.isRam b := rfl
@[simp] theorem State.withA_noIo (v : Byte) (b : Word) (st : State) : (st.withA v).noIo b = st.noIo b := rfl
@[simp] theorem State.withA_memoryWf (v : Byte) (st : State) : (st.withA v).memoryWf = st.memoryWf := rfl
@[simp] theorem State.withA_attrs (v : Byte) (st : State) : (st.withA v).attrs = st.attrs := rfl
@[simp] theorem State.withA_pcAfter (v : Byte) (target : Int) (st : State) : (st.withA v).pcAfter target = st.pcAfter target := rfl
@[simp] theorem State.withA_flag (v : Byte) (g : Flag) (st : State) : (st.withA v).flag g = st.flag g := rfl

@[simp] theorem State.withX_peek (v : Byte) (b : Word) (st : State) : (st.withX v).peek b = st.peek b := rfl
@[simp] theorem State.withX_writable (v : Byte) (b : Word) (st : State) : (st.withX v).writable b = st.writable b := rfl
@[simp] theorem State.withX_isRam (v : Byte) (b : Word) (st : State) : (st.withX v).isRam b = st.isRam b := rfl
@[simp] theorem State.withX_noIo (v : Byte) (b : Word) (st : State) : (st.withX v).noIo b = st.noIo b := rfl
@[simp] theorem State.withX_memoryWf (v : Byte) (st : State) : (st.withX v).memoryWf = st.memoryWf := rfl
@[simp] theorem State.withX_attrs (v : Byte) (st : State) : (st.withX v).attrs = st.attrs := rfl
@[simp] theorem State.withX_pcAfter (v : Byte) (target : Int) (st : State) : (st.withX v).pcAfter target = st.pcAfter target := rfl
@[simp] theorem State.withX_flag (v : Byte) (g : Flag) (st : State) : (st.withX v).flag g = st.flag g := rfl

@[simp] theorem State.withY_peek (v : Byte) (b : Word) (st : State) : (st.withY v).peek b = st.peek b := rfl
@[simp] theorem State.withY_writable (v : Byte) (b : Word) (st : State) : (st.withY v).writable b = st.writable b := rfl
@[simp] theorem State.withY_isRam (v : Byte) (b : Word) (st : State) : (st.withY v).isRam b = st.isRam b := rfl
@[simp] theorem State.withY_noIo (v : Byte) (b : Word) (st : State) : (st.withY v).noIo b = st.noIo b := rfl
@[simp] theorem State.withY_memoryWf (v : Byte) (st : State) : (st.withY v).memoryWf = st.memoryWf := rfl
@[simp] theorem State.withY_attrs (v : Byte) (st : State) : (st.withY v).attrs = st.attrs := rfl
@[simp] theorem State.withY_pcAfter (v : Byte) (target : Int) (st : State) : (st.withY v).pcAfter target = st.pcAfter target := rfl
@[simp] theorem State.withY_flag (v : Byte) (g : Flag) (st : State) : (st.withY v).flag g = st.flag g := rfl

@[simp] theorem State.withS_peek (v : Byte) (b : Word) (st : State) : (st.withS v).peek b = st.peek b := rfl
@[simp] theorem State.withS_writable (v : Byte) (b : Word) (st : State) : (st.withS v).writable b = st.writable b := rfl
@[simp] theorem State.withS_isRam (v : Byte) (b : Word) (st : State) : (st.withS v).isRam b = st.isRam b := rfl
@[simp] theorem State.withS_noIo (v : Byte) (b : Word) (st : State) : (st.withS v).noIo b = st.noIo b := rfl
@[simp] theorem State.withS_memoryWf (v : Byte) (st : State) : (st.withS v).memoryWf = st.memoryWf := rfl
@[simp] theorem State.withS_attrs (v : Byte) (st : State) : (st.withS v).attrs = st.attrs := rfl
@[simp] theorem State.withS_pcAfter (v : Byte) (target : Int) (st : State) : (st.withS v).pcAfter target = st.pcAfter target := rfl
@[simp] theorem State.withS_flag (v : Byte) (g : Flag) (st : State) : (st.withS v).flag g = st.flag g := rfl

@[simp] theorem State.withPc_peek (v : Word) (b : Word) (st : State) : (st.withPc v).peek b = st.peek b := rfl
@[simp] theorem State.withPc_writable (v : Word) (b : Word) (st : State) : (st.withPc v).writable b = st.writable b := rfl
@[simp] theorem State.withPc_isRam (v : Word) (b : Word) (st : State) : (st.withPc v).isRam b = st.isRam b := rfl
@[simp] theorem State.withPc_noIo (v : Word) (b : Word) (st : State) : (st.withPc v).noIo b = st.noIo b := rfl
@[simp] theorem State.withPc_memoryWf (v : Word) (st : State) : (st.withPc v).memoryWf = st.memoryWf := rfl
@[simp] theorem State.withPc_attrs (v : Word) (st : State) : (st.withPc v).attrs = st.attrs := rfl
@[simp] theorem State.withPc_pcAfter (v : Word) (target : Int) (st : State) : (st.withPc v).pcAfter target = st.pcAfter target := rfl
@[simp] theorem State.withPc_flag (v : Word) (g : Flag) (st : State) : (st.withPc v).flag g = st.flag g := rfl

@[simp] theorem State.withP_peek (v : Byte) (b : Word) (st : State) : (st.withP v).peek b = st.peek b := rfl
@[simp] theorem State.withP_writable (v : Byte) (b : Word) (st : State) : (st.withP v).writable b = st.writable b := rfl
@[simp] theorem State.withP_isRam (v : Byte) (b : Word) (st : State) : (st.withP v).isRam b = st.isRam b := rfl
@[simp] theorem State.withP_noIo (v : Byte) (b : Word) (st : State) : (st.withP v).noIo b = st.noIo b := rfl
@[simp] theorem State.withP_memoryWf (v : Byte) (st : State) : (st.withP v).memoryWf = st.memoryWf := rfl
@[simp] theorem State.withP_attrs (v : Byte) (st : State) : (st.withP v).attrs = st.attrs := rfl
@[simp] theorem State.withP_pcAfter (v : Byte) (target : Int) (st : State) : (st.withP v).pcAfter target = st.pcAfter target := rfl

@[simp] theorem State.withWaiting_peek (v : Bool) (b : Word) (st : State) : (st.withWaiting v).peek b = st.peek b := rfl
@[simp] theorem State.withWaiting_writable (v : Bool) (b : Word) (st : State) : (st.withWaiting v).writable b = st.writable b := rfl
@[simp] theorem State.withWaiting_isRam (v : Bool) (b : Word) (st : State) : (st.withWaiting v).isRam b = st.isRam b := rfl
@[simp] theorem State.withWaiting_noIo (v : Bool) (b : Word) (st : State) : (st.withWaiting v).noIo b = st.noIo b := rfl
@[simp] theorem State.withWaiting_memoryWf (v : Bool) (st : State) : (st.withWaiting v).memoryWf = st.memoryWf := rfl
@[simp] theorem State.withWaiting_attrs (v : Bool) (st : State) : (st.withWaiting v).attrs = st.attrs := rfl
@[simp] theorem State.withWaiting_pcAfter (v : Bool) (target : Int) (st : State) : (st.withWaiting v).pcAfter target = st.pcAfter target := rfl
@[simp] theorem State.withWaiting_flag (v : Bool) (g : Flag) (st : State) : (st.withWaiting v).flag g = st.flag g := rfl

@[simp] theorem State.withStp_peek (v : Bool) (b : Word) (st : State) : (st.withStp v).peek b = st.peek b := rfl
@[simp] theorem State.withStp_writable (v : Bool) (b : Word) (st : State) : (st.withStp v).writable b = st.writable b := rfl
@[simp] theorem State.withStp_isRam (v : Bool) (b : Word) (st : State) : (st.withStp v).isRam b = st.isRam b := rfl
@[simp] theorem State.withStp_noIo (v : Bool) (b : Word) (st : State) : (st.withStp v).noIo b = st.noIo b := rfl
@[simp] theorem State.withStp_memoryWf (v : Bool) (st : State) : (st.withStp v).memoryWf = st.memoryWf := rfl
@[simp] theorem State.withStp_attrs (v : Bool) (st : State) : (st.withStp v).attrs = st.attrs := rfl
@[simp] theorem State.withStp_pcAfter (v : Bool) (target : Int) (st : State) : (st.withStp v).pcAfter target = st.pcAfter target := rfl
@[simp] theorem State.withStp_flag (v : Bool) (g : Flag) (st : State) : (st.withStp v).flag g = st.flag g := rfl

@[simp] theorem State.withNmiPending_peek (v : Bool) (b : Word) (st : State) : (st.withNmiPending v).peek b = st.peek b := rfl
@[simp] theorem State.withNmiPending_writable (v : Bool) (b : Word) (st : State) : (st.withNmiPending v).writable b = st.writable b := rfl
@[simp] theorem State.withNmiPending_isRam (v : Bool) (b : Word) (st : State) : (st.withNmiPending v).isRam b = st.isRam b := rfl
@[simp] theorem State.withNmiPending_noIo (v : Bool) (b : Word) (st : State) : (st.withNmiPending v).noIo b = st.noIo b := rfl
@[simp] theorem State.withNmiPending_memoryWf (v : Bool) (st : State) : (st.withNmiPending v).memoryWf = st.memoryWf := rfl
@[simp] theorem State.withNmiPending_attrs (v : Bool) (st : State) : (st.withNmiPending v).attrs = st.attrs := rfl
@[simp] theorem State.withNmiPending_pcAfter (v : Bool) (target : Int) (st : State) : (st.withNmiPending v).pcAfter target = st.pcAfter target := rfl
@[simp] theorem State.withNmiPending_flag (v : Bool) (g : Flag) (st : State) : (st.withNmiPending v).flag g = st.flag g := rfl

@[simp] theorem State.withIrqPending_peek (v : Bool) (b : Word) (st : State) : (st.withIrqPending v).peek b = st.peek b := rfl
@[simp] theorem State.withIrqPending_writable (v : Bool) (b : Word) (st : State) : (st.withIrqPending v).writable b = st.writable b := rfl
@[simp] theorem State.withIrqPending_isRam (v : Bool) (b : Word) (st : State) : (st.withIrqPending v).isRam b = st.isRam b := rfl
@[simp] theorem State.withIrqPending_noIo (v : Bool) (b : Word) (st : State) : (st.withIrqPending v).noIo b = st.noIo b := rfl
@[simp] theorem State.withIrqPending_memoryWf (v : Bool) (st : State) : (st.withIrqPending v).memoryWf = st.memoryWf := rfl
@[simp] theorem State.withIrqPending_attrs (v : Bool) (st : State) : (st.withIrqPending v).attrs = st.attrs := rfl
@[simp] theorem State.withIrqPending_pcAfter (v : Bool) (target : Int) (st : State) : (st.withIrqPending v).pcAfter target = st.pcAfter target := rfl
@[simp] theorem State.withIrqPending_flag (v : Bool) (g : Flag) (st : State) : (st.withIrqPending v).flag g = st.flag g := rfl

@[simp] theorem State.publish_peek (e : Event) (b : Word) (st : State) : (st.publish e).peek b = st.peek b := rfl
@[simp] theorem State.publish_writable (e : Event) (b : Word) (st : State) : (st.publish e).writable b = st.writable b := rfl
@[simp] theorem State.publish_isRam (e : Event) (b : Word) (st : State) : (st.publish e).isRam b = st.isRam b := rfl
@[simp] theorem State.publish_noIo (e : Event) (b : Word) (st : State) : (st.publish e).noIo b = st.noIo b := rfl
@[simp] theorem State.publish_memoryWf (e : Event) (st : State) : (st.publish e).memoryWf = st.memoryWf := rfl
@[simp] theorem State.publish_attrs (e : Event) (st : State) : (st.publish e).attrs = st.attrs := rfl
@[simp] theorem State.publish_pcAfter (e : Event) (target : Int) (st : State) : (st.publish e).pcAfter target = st.pcAfter target := rfl
@[simp] theorem State.publish_flag (e : Event) (g : Flag) (st : State) : (st.publish e).flag g = st.flag g := rfl

@[simp] theorem State.latch_peek (r : FaultReason) (b : Word) (st : State) : (st.latch r).peek b = st.peek b := rfl
@[simp] theorem State.latch_writable (r : FaultReason) (b : Word) (st : State) : (st.latch r).writable b = st.writable b := rfl
@[simp] theorem State.latch_isRam (r : FaultReason) (b : Word) (st : State) : (st.latch r).isRam b = st.isRam b := rfl
@[simp] theorem State.latch_noIo (r : FaultReason) (b : Word) (st : State) : (st.latch r).noIo b = st.noIo b := rfl
@[simp] theorem State.latch_memoryWf (r : FaultReason) (st : State) : (st.latch r).memoryWf = st.memoryWf := rfl
@[simp] theorem State.latch_attrs (r : FaultReason) (st : State) : (st.latch r).attrs = st.attrs := rfl
@[simp] theorem State.latch_pcAfter (r : FaultReason) (target : Int) (st : State) : (st.latch r).pcAfter target = st.pcAfter target := rfl
@[simp] theorem State.latch_flag (r : FaultReason) (g : Flag) (st : State) : (st.latch r).flag g = st.flag g := rfl

@[simp] theorem State.withFlag_peek (f : Flag) (on : Bool) (b : Word) (st : State) : (st.withFlag f on).peek b = st.peek b := rfl
@[simp] theorem State.withFlag_writable (f : Flag) (on : Bool) (b : Word) (st : State) : (st.withFlag f on).writable b = st.writable b := rfl
@[simp] theorem State.withFlag_isRam (f : Flag) (on : Bool) (b : Word) (st : State) : (st.withFlag f on).isRam b = st.isRam b := rfl
@[simp] theorem State.withFlag_noIo (f : Flag) (on : Bool) (b : Word) (st : State) : (st.withFlag f on).noIo b = st.noIo b := rfl
@[simp] theorem State.withFlag_memoryWf (f : Flag) (on : Bool) (st : State) : (st.withFlag f on).memoryWf = st.memoryWf := rfl
@[simp] theorem State.withFlag_attrs (f : Flag) (on : Bool) (st : State) : (st.withFlag f on).attrs = st.attrs := rfl
@[simp] theorem State.withFlag_pcAfter (f : Flag) (on : Bool) (target : Int) (st : State) : (st.withFlag f on).pcAfter target = st.pcAfter target := rfl

@[simp] theorem State.setNZ_peek (v : Byte) (b : Word) (st : State) : (st.setNZ v).peek b = st.peek b := rfl
@[simp] theorem State.setNZ_writable (v : Byte) (b : Word) (st : State) : (st.setNZ v).writable b = st.writable b := rfl
@[simp] theorem State.setNZ_isRam (v : Byte) (b : Word) (st : State) : (st.setNZ v).isRam b = st.isRam b := rfl
@[simp] theorem State.setNZ_noIo (v : Byte) (b : Word) (st : State) : (st.setNZ v).noIo b = st.noIo b := rfl
@[simp] theorem State.setNZ_memoryWf (v : Byte) (st : State) : (st.setNZ v).memoryWf = st.memoryWf := rfl
@[simp] theorem State.setNZ_attrs (v : Byte) (st : State) : (st.setNZ v).attrs = st.attrs := rfl
@[simp] theorem State.setNZ_pcAfter (v : Byte) (target : Int) (st : State) : (st.setNZ v).pcAfter target = st.pcAfter target := rfl

@[simp] theorem State.compare_peek (reg m : Byte) (b : Word) (st : State) : (st.compare reg m).peek b = st.peek b := rfl
@[simp] theorem State.compare_writable (reg m : Byte) (b : Word) (st : State) : (st.compare reg m).writable b = st.writable b := rfl
@[simp] theorem State.compare_isRam (reg m : Byte) (b : Word) (st : State) : (st.compare reg m).isRam b = st.isRam b := rfl
@[simp] theorem State.compare_noIo (reg m : Byte) (b : Word) (st : State) : (st.compare reg m).noIo b = st.noIo b := rfl
@[simp] theorem State.compare_memoryWf (reg m : Byte) (st : State) : (st.compare reg m).memoryWf = st.memoryWf := rfl
@[simp] theorem State.compare_attrs (reg m : Byte) (st : State) : (st.compare reg m).attrs = st.attrs := rfl
@[simp] theorem State.compare_pcAfter (reg m : Byte) (target : Int) (st : State) : (st.compare reg m).pcAfter target = st.pcAfter target := rfl

@[simp] theorem State.withAlu_peek (res : AluResult) (b : Word) (st : State) : (st.withAlu res).peek b = st.peek b := rfl
@[simp] theorem State.withAlu_writable (res : AluResult) (b : Word) (st : State) : (st.withAlu res).writable b = st.writable b := rfl
@[simp] theorem State.withAlu_isRam (res : AluResult) (b : Word) (st : State) : (st.withAlu res).isRam b = st.isRam b := rfl
@[simp] theorem State.withAlu_noIo (res : AluResult) (b : Word) (st : State) : (st.withAlu res).noIo b = st.noIo b := rfl
@[simp] theorem State.withAlu_memoryWf (res : AluResult) (st : State) : (st.withAlu res).memoryWf = st.memoryWf := rfl
@[simp] theorem State.withAlu_attrs (res : AluResult) (st : State) : (st.withAlu res).attrs = st.attrs := rfl
@[simp] theorem State.withAlu_pcAfter (res : AluResult) (target : Int) (st : State) : (st.withAlu res).pcAfter target = st.pcAfter target := rfl

@[simp] theorem State.tick_peek (b : Word) (st : State) : (st.tick).peek b = st.peek b := rfl
@[simp] theorem State.tick_writable (b : Word) (st : State) : (st.tick).writable b = st.writable b := rfl
@[simp] theorem State.tick_isRam (b : Word) (st : State) : (st.tick).isRam b = st.isRam b := rfl
@[simp] theorem State.tick_noIo (b : Word) (st : State) : (st.tick).noIo b = st.noIo b := rfl
@[simp] theorem State.tick_memoryWf (st : State) : (st.tick).memoryWf = st.memoryWf := rfl
@[simp] theorem State.tick_attrs (st : State) : (st.tick).attrs = st.attrs := rfl
@[simp] theorem State.tick_pcAfter (target : Int) (st : State) : (st.tick).pcAfter target = st.pcAfter target := rfl
@[simp] theorem State.tick_flag (g : Flag) (st : State) : (st.tick).flag g = st.flag g := rfl

/-! ## Flags after a Read -/

@[simp] theorem State.busRead_flag (addr : Word) (g : Flag) (st : State) : (st.busRead addr).2.flag g = st.flag g := by simp [State.flag]
@[simp] theorem State.memRead_flag (addr : Word) (g : Flag) (st : State) : (st.memRead addr).2.flag g = st.flag g := by simp [State.flag]
@[simp] theorem State.memRead16_flag (addr : Word) (g : Flag) (st : State) : (st.memRead16 addr).2.flag g = st.flag g := by simp [State.flag]
@[simp] theorem State.zpRead16_flag (z : Byte) (g : Flag) (st : State) : (st.zpRead16 z).2.flag g = st.flag g := by simp [State.flag]
@[simp] theorem effectiveAddress_flag (o : MemOperand) (g : Flag) (st : State) : (effectiveAddress o st).2.flag g = st.flag g := by simp [State.flag]
@[simp] theorem readSource_flag (src : Source) (g : Flag) (st : State) : (readSource src st).2.flag g = st.flag g := by simp [State.flag]
@[simp] theorem readTarget_flag (o : MemOperand) (g : Flag) (st : State) : (readTarget o st).st.flag g = st.flag g := by simp [State.flag]
@[simp] theorem State.pull_flag (g : Flag) (st : State) : st.pull.2.flag g = st.flag g := by simp [State.flag]
@[simp] theorem State.pullWord_flag (g : Flag) (st : State) : st.pullWord.2.flag g = st.flag g := by simp [State.flag]

/-! ## What depends on the devices' attributes alone -/

/-- The two states have the same parameters and the same devices, the arrays and the histories apart. -/
def State.SameBus (s t : State) : Prop := t.cfg = s.cfg ∧ t.attrs = s.attrs

theorem State.SameBus.refl (s : State) : s.SameBus s := ⟨rfl, rfl⟩

theorem State.SameBus.trans {s t u : State} (h : s.SameBus t) (k : t.SameBus u) : s.SameBus u :=
  ⟨k.1.trans h.1, k.2.trans h.2⟩

theorem writableBy_congr (sel : List ChipSelect) {ds es : List Device} (h : ds.map (·.attr) = es.map (·.attr)) :
    writableBy sel ds = writableBy sel es := by
  have key : ∀ l : List Device, writableBy sel l =
      (l.map (·.attr)).all fun a => !(a.enabled && sel.contains a.mappedIo) || a.mode.canWrite := by
    intro l; simp [writableBy, List.all_map, Function.comp_def, Device.selected]
  rw [key, key, h]

theorem State.SameBus.writable {s t : State} (h : s.SameBus t) (a : Word) : t.writable a = s.writable a := by
  unfold State.writable
  rw [h.1]
  exact writableBy_congr _ h.2

theorem forall_attrs_iff (ds : List Device) (P : DeviceAttr → Prop) :
    (∀ d ∈ ds, P d.attr) ↔ ∀ a ∈ ds.map (·.attr), P a := by simp

theorem exists_attrs_iff (ds : List Device) (P : DeviceAttr → Prop) :
    (∃ d ∈ ds, P d.attr) ↔ ∃ a ∈ ds.map (·.attr), P a := by simp

theorem State.SameBus.isRam {s t : State} (h : s.SameBus t) (a : Word) : t.isRam a = s.isRam a := by
  have key : ∀ u : State, u.isRam a =
      ((∃ x ∈ u.attrs, (Device.blank x).selected (decodeAddress u.cfg.ranges a) = true) ∧
      ∀ x ∈ u.attrs, (Device.blank x).selected (decodeAddress u.cfg.ranges a) = true →
        x.mode = .readWrite ∧ x.mappedIo.isIo = false ∧ ((Device.blank x).index a).isSome = true) := by
    intro u
    exact propext (and_congr
      (exists_attrs_iff u.devices fun x => (Device.blank x).selected (decodeAddress u.cfg.ranges a) = true)
      (forall_attrs_iff u.devices fun x => (Device.blank x).selected (decodeAddress u.cfg.ranges a) = true →
        x.mode = .readWrite ∧ x.mappedIo.isIo = false ∧ ((Device.blank x).index a).isSome = true))
  rw [key, key, h.1, h.2]

theorem State.SameBus.noIo {s t : State} (h : s.SameBus t) (a : Word) : t.noIo a = s.noIo a := by
  have key : ∀ u : State, u.noIo a =
      ∀ x ∈ u.attrs, (Device.blank x).selected (decodeAddress u.cfg.ranges a) = true → x.mappedIo.isIo = false := by
    intro u
    exact propext (forall_attrs_iff u.devices fun x =>
      (Device.blank x).selected (decodeAddress u.cfg.ranges a) = true → x.mappedIo.isIo = false)
  rw [key, key, h.1, h.2]

theorem State.writable_of_isRam {st : State} {a : Word} (h : st.isRam a) : st.writable a = true := by
  simp only [State.writable, writableBy, List.all_eq_true, Bool.or_eq_true, Bool.not_eq_true']
  intro d hd
  by_cases hs : d.selected (decodeAddress st.cfg.ranges a) = true
  · exact Or.inr (by rw [(h.2 d hd hs).1]; rfl)
  · exact Or.inl (by simpa using hs)

/-! ## A Read -/

theorem State.busRead_sameBus (a : Word) (st : State) : st.SameBus (st.busRead a).2 :=
  ⟨rfl, readDevices_attr _ _ _⟩

theorem State.memRead_sameBus (a : Word) (st : State) : st.SameBus (st.memRead a).2 :=
  ⟨rfl, readDevices_attr _ _ _⟩

theorem State.memRead16_sameBus (a : Word) (st : State) : st.SameBus (st.memRead16 a).2 :=
  (st.memRead_sameBus a).trans (State.memRead_sameBus (a + 1) _)

theorem State.zpRead16_sameBus (z : Byte) (st : State) : st.SameBus (st.zpRead16 z).2 :=
  (st.memRead_sameBus (zext z)).trans (State.memRead_sameBus (zext (z + 1)) _)

theorem effectiveAddress_sameBus (o : MemOperand) (st : State) : st.SameBus (effectiveAddress o st).2 := by
  cases o with
  | zp | zpX | zpY | abs | absX | absY => exact .refl _
  | zpIndX z => exact st.zpRead16_sameBus (z + st.x)
  | zpIndY z => exact st.zpRead16_sameBus z
  | zpInd z => exact st.zpRead16_sameBus z

theorem readSource_sameBus (src : Source) (st : State) : st.SameBus (readSource src st).2 := by
  cases src with
  | imm => exact .refl _
  | mem o => exact (effectiveAddress_sameBus o st).trans (State.memRead_sameBus _ _)

theorem readTarget_sameBus (o : MemOperand) (st : State) : st.SameBus (readTarget o st).st :=
  (effectiveAddress_sameBus o st).trans (State.memRead_sameBus _ _)

theorem State.pull_sameBus (st : State) : st.SameBus st.pull.2 := ⟨rfl, readDevices_attr _ _ _⟩

theorem State.pullWord_sameBus (st : State) : st.SameBus st.pullWord.2 :=
  st.pull_sameBus.trans (State.pull_sameBus _)

@[simp] theorem State.busRead_peek (a b : Word) (st : State) : (st.busRead a).2.peek b = st.peek b :=
  peekDevices_readDevices _ _ _ _ _ _ _

@[simp] theorem State.memRead_peek (a b : Word) (st : State) : (st.memRead a).2.peek b = st.peek b :=
  peekDevices_readDevices _ _ _ _ _ _ _

@[simp] theorem State.memRead16_peek (a b : Word) (st : State) : (st.memRead16 a).2.peek b = st.peek b := by
  simp [State.memRead16]

@[simp] theorem State.zpRead16_peek (z : Byte) (b : Word) (st : State) : (st.zpRead16 z).2.peek b = st.peek b := by
  simp [State.zpRead16]

@[simp] theorem effectiveAddress_peek (o : MemOperand) (b : Word) (st : State) :
    (effectiveAddress o st).2.peek b = st.peek b := by
  cases o <;> simp [effectiveAddress]

@[simp] theorem readSource_peek (src : Source) (b : Word) (st : State) : (readSource src st).2.peek b = st.peek b := by
  cases src <;> simp [readSource]

@[simp] theorem readTarget_peek (o : MemOperand) (b : Word) (st : State) : (readTarget o st).st.peek b = st.peek b := by
  simp [readTarget]

@[simp] theorem State.pull_peek (b : Word) (st : State) : st.pull.2.peek b = st.peek b := by
  simp [State.pull]

@[simp] theorem State.pullWord_peek (b : Word) (st : State) : st.pullWord.2.peek b = st.peek b := by
  simp [State.pullWord]

/-- A Read returns the byte that the state fixes. -/
theorem State.busRead_of_peek {a : Word} {v : Byte} {st : State} (h : st.peek a = some v) : (st.busRead a).1 = v :=
  readData_of_peekDevices _ _ _ _ _ _ _ (by simp) h

theorem State.memRead_of_peek {a : Word} {v : Byte} {st : State} (h : st.peek a = some v) : (st.memRead a).1 = v :=
  readData_of_peekDevices _ _ _ _ _ _ _ (by simp) h

theorem State.memRead16_of_peek {a : Word} {lo hi : Byte} {st : State} (hl : st.peek a = some lo)
    (hh : st.peek (a + 1) = some hi) : (st.memRead16 a).1 = wordOf hi lo := by
  simp only [State.memRead16, State.memRead_of_peek hl]
  rw [State.memRead_of_peek (v := hi) (by simpa using hh)]

theorem State.zpRead16_of_peek {z lo hi : Byte} {st : State} (hl : st.peek (zext z) = some lo)
    (hh : st.peek (zext (z + 1)) = some hi) : (st.zpRead16 z).1 = wordOf hi lo := by
  simp only [State.zpRead16, State.memRead_of_peek hl]
  rw [State.memRead_of_peek (v := hi) (by simpa using hh)]

theorem State.pull_of_peek {v : Byte} {st : State} (h : st.peek (stackAddr (st.s + 1)) = some v) : st.pull.1 = v :=
  State.memRead_of_peek (st := st.withS (st.s + 1)) h

theorem State.pullWord_of_peek {lo hi : Byte} {st : State} (hl : st.peek (stackAddr (st.s + 1)) = some lo)
    (hh : st.peek (stackAddr (st.s + 1 + 1)) = some hi) : st.pullWord.1 = wordOf hi lo := by
  simp only [State.pullWord, State.pull_of_peek hl]
  rw [State.pull_of_peek (v := hi) (by simpa using hh)]

/-- Where no I/O device is selected a Read changes the tick counter alone. -/
theorem State.memRead_of_noIo {a : Word} {st : State} (h : st.noIo a) :
    (st.memRead a).2 = { st with ticks := st.ticks + 1 } := by
  have : readDevices (decodeAddress st.cfg.ranges a) a st.devices = st.devices := readDevices_of_noIo _ _ _ h
  show State.withDevices (readDevices (decodeAddress st.cfg.ranges a) a st.devices) st.tick = _
  rw [this]
  rfl

theorem State.busRead_of_noIo {a : Word} {st : State} (h : st.noIo a) : (st.busRead a).2 = st := by
  have : readDevices (decodeAddress st.cfg.ranges a) a st.devices = st.devices := readDevices_of_noIo _ _ _ h
  show State.withDevices (readDevices (decodeAddress st.cfg.ranges a) a st.devices) st = _
  rw [this]
  rfl

/-! ## Arrays stay canonical -/

theorem State.busRead_memoryWf (a : Word) {st : State} (h : st.memoryWf) : (st.busRead a).2.memoryWf :=
  readDevices_wf _ _ _ _ h

theorem State.memRead_memoryWf (a : Word) {st : State} (h : st.memoryWf) : (st.memRead a).2.memoryWf :=
  readDevices_wf _ _ _ _ h

theorem State.memRead16_memoryWf (a : Word) {st : State} (h : st.memoryWf) : (st.memRead16 a).2.memoryWf :=
  State.memRead_memoryWf _ (State.memRead_memoryWf _ h)

theorem State.zpRead16_memoryWf (z : Byte) {st : State} (h : st.memoryWf) : (st.zpRead16 z).2.memoryWf :=
  State.memRead_memoryWf _ (State.memRead_memoryWf _ h)

theorem effectiveAddress_memoryWf (o : MemOperand) {st : State} (h : st.memoryWf) :
    (effectiveAddress o st).2.memoryWf := by
  cases o with
  | zp | zpX | zpY | abs | absX | absY => exact h
  | zpIndX z => exact State.zpRead16_memoryWf _ h
  | zpIndY z => exact State.zpRead16_memoryWf _ h
  | zpInd z => exact State.zpRead16_memoryWf _ h

theorem readSource_memoryWf (src : Source) {st : State} (h : st.memoryWf) : (readSource src st).2.memoryWf := by
  cases src with
  | imm => exact h
  | mem o => exact State.memRead_memoryWf _ (effectiveAddress_memoryWf o h)

theorem readTarget_memoryWf (o : MemOperand) {st : State} (h : st.memoryWf) : (readTarget o st).st.memoryWf :=
  State.memRead_memoryWf _ (effectiveAddress_memoryWf o h)

theorem State.pull_memoryWf {st : State} (h : st.memoryWf) : st.pull.2.memoryWf :=
  State.memRead_memoryWf (st := st.withS (st.s + 1)) _ h

theorem State.pullWord_memoryWf {st : State} (h : st.memoryWf) : st.pullWord.2.memoryWf :=
  State.pull_memoryWf (State.pull_memoryWf h)

/-! ## Flow -/

/-- The state a flow stands in. -/
def Flow.state : Flow → State
  | .go st => st
  | .raised _ st => st

/-- The state the step answers: with the fault latched where one was raised. -/
def Flow.final : Flow → State
  | .go st => st
  | .raised r st => st.latch r

theorem Flow.outcome_eq (f : Flow) : f.outcome = .next f.final := by cases f <;> rfl

@[simp] theorem Flow.state_go (st : State) : (Flow.go st).state = st := rfl
@[simp] theorem Flow.state_raised (r : FaultReason) (st : State) : (Flow.raised r st).state = st := rfl
@[simp] theorem Flow.final_go (st : State) : (Flow.go st).final = st := rfl
@[simp] theorem Flow.final_raised (r : FaultReason) (st : State) : (Flow.raised r st).final = st.latch r := rfl
@[simp] theorem Flow.andThen_go (st : State) (k : State → Flow) : (Flow.go st).andThen k = k st := rfl
@[simp] theorem Flow.andThen_raised (r : FaultReason) (st : State) (k : State → Flow) :
    (Flow.raised r st).andThen k = .raised r st := rfl

/-- What both parts keep, the whole keeps. -/
theorem Flow.andThen_keeps {R : State → State → Prop} (trans : ∀ {a b c}, R a b → R b c → R a c) {s : State} {f : Flow}
    {k : State → Flow} (hf : R s f.state) (hk : ∀ t, R t (k t).state) : R s (f.andThen k).state := by
  cases f with
  | go t => exact trans hf (hk t)
  | raised r t => exact hf

/-! ## A Write -/

/-- The state after a ticked Write, refused or not. -/
def State.stored (a : Word) (v : Byte) (st : State) : State :=
  st.tick.withDevices (writeDevices st.cfg (decodeAddress st.cfg.ranges a) a v st.devices)

/-! ## Fields after a Write -/

@[simp] theorem State.stored_a (a : Word) (v : Byte) (st : State) : (st.stored a v).a = st.a := by simp [State.stored]
@[simp] theorem State.stored_x (a : Word) (v : Byte) (st : State) : (st.stored a v).x = st.x := by simp [State.stored]
@[simp] theorem State.stored_y (a : Word) (v : Byte) (st : State) : (st.stored a v).y = st.y := by simp [State.stored]
@[simp] theorem State.stored_s (a : Word) (v : Byte) (st : State) : (st.stored a v).s = st.s := by simp [State.stored]
@[simp] theorem State.stored_pc (a : Word) (v : Byte) (st : State) : (st.stored a v).pc = st.pc := by simp [State.stored]
@[simp] theorem State.stored_p (a : Word) (v : Byte) (st : State) : (st.stored a v).p = st.p := by simp [State.stored]
@[simp] theorem State.stored_stopped (a : Word) (v : Byte) (st : State) : (st.stored a v).stopped = st.stopped := by simp [State.stored]
@[simp] theorem State.stored_faultReason (a : Word) (v : Byte) (st : State) : (st.stored a v).faultReason = st.faultReason := by simp [State.stored]
@[simp] theorem State.stored_waiting (a : Word) (v : Byte) (st : State) : (st.stored a v).waiting = st.waiting := by simp [State.stored]
@[simp] theorem State.stored_stp (a : Word) (v : Byte) (st : State) : (st.stored a v).stp = st.stp := by simp [State.stored]
@[simp] theorem State.stored_nmiPending (a : Word) (v : Byte) (st : State) : (st.stored a v).nmiPending = st.nmiPending := by simp [State.stored]
@[simp] theorem State.stored_irqPending (a : Word) (v : Byte) (st : State) : (st.stored a v).irqPending = st.irqPending := by simp [State.stored]
@[simp] theorem State.stored_breakpoints (a : Word) (v : Byte) (st : State) : (st.stored a v).breakpoints = st.breakpoints := by simp [State.stored]
@[simp] theorem State.stored_runMode (a : Word) (v : Byte) (st : State) : (st.stored a v).runMode = st.runMode := by simp [State.stored]
@[simp] theorem State.stored_events (a : Word) (v : Byte) (st : State) : (st.stored a v).events = st.events := by simp [State.stored]
@[simp] theorem State.stored_cfg (a : Word) (v : Byte) (st : State) : (st.stored a v).cfg = st.cfg := by simp [State.stored]
@[simp] theorem State.stored_ticks (a : Word) (v : Byte) (st : State) : (st.stored a v).ticks = st.ticks + 1 := by simp [State.stored]
@[simp] theorem State.stored_flag (a : Word) (v : Byte) (g : Flag) (st : State) : (st.stored a v).flag g = st.flag g := by simp [State.flag]

theorem State.memWrite_eq (a : Word) (v : Byte) (st : State) :
    st.memWrite a v = if st.writable a then .go (st.stored a v) else .raised (.writeProtect a) (st.stored a v) := rfl

theorem State.memWrite_of_writable {a : Word} {st : State} (v : Byte) (h : st.writable a = true) :
    st.memWrite a v = .go (st.stored a v) := by rw [State.memWrite_eq, if_pos h]

theorem State.memWrite_of_not_writable {a : Word} {st : State} (v : Byte) (h : st.writable a = false) :
    st.memWrite a v = .raised (.writeProtect a) (st.stored a v) := by
  rw [State.memWrite_eq, if_neg (by simp [h])]

@[simp] theorem State.memWrite_state (a : Word) (v : Byte) (st : State) : (st.memWrite a v).state = st.stored a v := by
  rw [State.memWrite_eq]; split <;> rfl

theorem State.stored_sameBus (a : Word) (v : Byte) (st : State) : st.SameBus (st.stored a v) :=
  ⟨rfl, writeDevices_attr _ _ _ _ _⟩

theorem State.stored_memoryWf (a : Word) (v : Byte) {st : State} (h : st.memoryWf) : (st.stored a v).memoryWf :=
  writeDevices_wf _ _ _ _ _ h

theorem State.stored_peek_other {a b : Word} (v : Byte) (st : State) (h : b ≠ a) :
    (st.stored a v).peek b = st.peek b :=
  peekDevices_writeDevices_other _ _ _ v h _ _

theorem State.stored_peek_same {a : Word} (v : Byte) {st : State} (hwf : st.memoryWf) (h : st.isRam a) :
    (st.stored a v).peek a = some v := by
  show peekDevices st.cfg (decodeAddress st.cfg.ranges a) a (some st.cfg.openBusValue)
    (writeDevices st.cfg (decodeAddress st.cfg.ranges a) a v st.devices) = some v
  rw [writeDevices_of_writable _ _ _ _ _ (State.writable_of_isRam h)]
  exact peekDevices_write_same _ _ _ _ _ hwf h.2 _ (Or.inr h.1)

/-! ## What the bus operations keep -/

@[simp] theorem State.busRead_writable (addr : Word) (b : Word) (st : State) : (st.busRead addr).2.writable b = st.writable b :=
  (State.busRead_sameBus _ st).writable b
@[simp] theorem State.busRead_isRam (addr : Word) (b : Word) (st : State) : (st.busRead addr).2.isRam b = st.isRam b :=
  (State.busRead_sameBus _ st).isRam b
@[simp] theorem State.busRead_noIo (addr : Word) (b : Word) (st : State) : (st.busRead addr).2.noIo b = st.noIo b :=
  (State.busRead_sameBus _ st).noIo b
@[simp] theorem State.busRead_pcAfter (addr : Word) (target : Int) (st : State) : (st.busRead addr).2.pcAfter target = st.pcAfter target := by
  simp [State.pcAfter]

@[simp] theorem State.memRead_writable (addr : Word) (b : Word) (st : State) : (st.memRead addr).2.writable b = st.writable b :=
  (State.memRead_sameBus _ st).writable b
@[simp] theorem State.memRead_isRam (addr : Word) (b : Word) (st : State) : (st.memRead addr).2.isRam b = st.isRam b :=
  (State.memRead_sameBus _ st).isRam b
@[simp] theorem State.memRead_noIo (addr : Word) (b : Word) (st : State) : (st.memRead addr).2.noIo b = st.noIo b :=
  (State.memRead_sameBus _ st).noIo b
@[simp] theorem State.memRead_pcAfter (addr : Word) (target : Int) (st : State) : (st.memRead addr).2.pcAfter target = st.pcAfter target := by
  simp [State.pcAfter]

@[simp] theorem State.memRead16_writable (addr : Word) (b : Word) (st : State) : (st.memRead16 addr).2.writable b = st.writable b :=
  (State.memRead16_sameBus _ st).writable b
@[simp] theorem State.memRead16_isRam (addr : Word) (b : Word) (st : State) : (st.memRead16 addr).2.isRam b = st.isRam b :=
  (State.memRead16_sameBus _ st).isRam b
@[simp] theorem State.memRead16_noIo (addr : Word) (b : Word) (st : State) : (st.memRead16 addr).2.noIo b = st.noIo b :=
  (State.memRead16_sameBus _ st).noIo b
@[simp] theorem State.memRead16_pcAfter (addr : Word) (target : Int) (st : State) : (st.memRead16 addr).2.pcAfter target = st.pcAfter target := by
  simp [State.pcAfter]

@[simp] theorem State.zpRead16_writable (z : Byte) (b : Word) (st : State) : (st.zpRead16 z).2.writable b = st.writable b :=
  (State.zpRead16_sameBus _ st).writable b
@[simp] theorem State.zpRead16_isRam (z : Byte) (b : Word) (st : State) : (st.zpRead16 z).2.isRam b = st.isRam b :=
  (State.zpRead16_sameBus _ st).isRam b
@[simp] theorem State.zpRead16_noIo (z : Byte) (b : Word) (st : State) : (st.zpRead16 z).2.noIo b = st.noIo b :=
  (State.zpRead16_sameBus _ st).noIo b
@[simp] theorem State.zpRead16_pcAfter (z : Byte) (target : Int) (st : State) : (st.zpRead16 z).2.pcAfter target = st.pcAfter target := by
  simp [State.pcAfter]

@[simp] theorem effectiveAddress_writable (o : MemOperand) (b : Word) (st : State) : (effectiveAddress o st).2.writable b = st.writable b :=
  (effectiveAddress_sameBus _ st).writable b
@[simp] theorem effectiveAddress_isRam (o : MemOperand) (b : Word) (st : State) : (effectiveAddress o st).2.isRam b = st.isRam b :=
  (effectiveAddress_sameBus _ st).isRam b
@[simp] theorem effectiveAddress_noIo (o : MemOperand) (b : Word) (st : State) : (effectiveAddress o st).2.noIo b = st.noIo b :=
  (effectiveAddress_sameBus _ st).noIo b
@[simp] theorem effectiveAddress_pcAfter (o : MemOperand) (target : Int) (st : State) : (effectiveAddress o st).2.pcAfter target = st.pcAfter target := by
  simp [State.pcAfter]

@[simp] theorem readSource_writable (src : Source) (b : Word) (st : State) : (readSource src st).2.writable b = st.writable b :=
  (readSource_sameBus _ st).writable b
@[simp] theorem readSource_isRam (src : Source) (b : Word) (st : State) : (readSource src st).2.isRam b = st.isRam b :=
  (readSource_sameBus _ st).isRam b
@[simp] theorem readSource_noIo (src : Source) (b : Word) (st : State) : (readSource src st).2.noIo b = st.noIo b :=
  (readSource_sameBus _ st).noIo b
@[simp] theorem readSource_pcAfter (src : Source) (target : Int) (st : State) : (readSource src st).2.pcAfter target = st.pcAfter target := by
  simp [State.pcAfter]

@[simp] theorem readTarget_writable (o : MemOperand) (b : Word) (st : State) : (readTarget o st).st.writable b = st.writable b :=
  (readTarget_sameBus _ st).writable b
@[simp] theorem readTarget_isRam (o : MemOperand) (b : Word) (st : State) : (readTarget o st).st.isRam b = st.isRam b :=
  (readTarget_sameBus _ st).isRam b
@[simp] theorem readTarget_noIo (o : MemOperand) (b : Word) (st : State) : (readTarget o st).st.noIo b = st.noIo b :=
  (readTarget_sameBus _ st).noIo b
@[simp] theorem readTarget_pcAfter (o : MemOperand) (target : Int) (st : State) : (readTarget o st).st.pcAfter target = st.pcAfter target := by
  simp [State.pcAfter]

@[simp] theorem State.pull_writable (b : Word) (st : State) : st.pull.2.writable b = st.writable b :=
  (State.pull_sameBus st).writable b
@[simp] theorem State.pull_isRam (b : Word) (st : State) : st.pull.2.isRam b = st.isRam b :=
  (State.pull_sameBus st).isRam b
@[simp] theorem State.pull_noIo (b : Word) (st : State) : st.pull.2.noIo b = st.noIo b :=
  (State.pull_sameBus st).noIo b
@[simp] theorem State.pull_pcAfter (target : Int) (st : State) : st.pull.2.pcAfter target = st.pcAfter target := by
  simp [State.pcAfter]

@[simp] theorem State.pullWord_writable (b : Word) (st : State) : st.pullWord.2.writable b = st.writable b :=
  (State.pullWord_sameBus  st).writable b
@[simp] theorem State.pullWord_isRam (b : Word) (st : State) : st.pullWord.2.isRam b = st.isRam b :=
  (State.pullWord_sameBus  st).isRam b
@[simp] theorem State.pullWord_noIo (b : Word) (st : State) : st.pullWord.2.noIo b = st.noIo b :=
  (State.pullWord_sameBus  st).noIo b
@[simp] theorem State.pullWord_pcAfter (target : Int) (st : State) : st.pullWord.2.pcAfter target = st.pcAfter target := by
  simp [State.pcAfter]

@[simp] theorem State.stored_writable (a : Word) (v : Byte) (b : Word) (st : State) : (st.stored a v).writable b = st.writable b :=
  (State.stored_sameBus _ _ st).writable b
@[simp] theorem State.stored_isRam (a : Word) (v : Byte) (b : Word) (st : State) : (st.stored a v).isRam b = st.isRam b :=
  (State.stored_sameBus _ _ st).isRam b
@[simp] theorem State.stored_noIo (a : Word) (v : Byte) (b : Word) (st : State) : (st.stored a v).noIo b = st.noIo b :=
  (State.stored_sameBus _ _ st).noIo b
@[simp] theorem State.stored_pcAfter (a : Word) (v : Byte) (target : Int) (st : State) : (st.stored a v).pcAfter target = st.pcAfter target := by
  simp [State.pcAfter]

/-! ## The stack -/

@[simp] theorem State.spAddr_eq (st : State) : st.spAddr = stackAddr st.s := rfl

theorem State.push_of_writable {st : State} (v : Byte) (h : st.writable (stackAddr st.s) = true) :
    st.push v = .go ((st.stored (stackAddr st.s) v).withS (st.s - 1)) := by
  unfold State.push
  rw [State.spAddr_eq, State.memWrite_of_writable v h]
  rfl

theorem State.push_of_not_writable {st : State} (v : Byte) (h : st.writable (stackAddr st.s) = false) :
    st.push v = .raised (.writeProtect (stackAddr st.s)) (st.stored (stackAddr st.s) v) := by
  unfold State.push
  rw [State.spAddr_eq, State.memWrite_of_not_writable v h]
  rfl

/-- Two pushes whose slots may be written. -/
theorem State.pushWord_of_writable {st : State} (w : Word) (h1 : st.writable (stackAddr st.s) = true)
    (h2 : st.writable (stackAddr (st.s - 1)) = true) :
    st.pushWord w = .go ((((st.stored (stackAddr st.s) (hiByte w)).withS (st.s - 1)).stored (stackAddr (st.s - 1))
      (loByte w)).withS (st.s - 1 - 1)) := by
  unfold State.pushWord
  rw [State.push_of_writable _ h1, Flow.andThen_go]
  refine State.push_of_writable _ ?_
  have : st.SameBus ((st.stored (stackAddr st.s) (hiByte w)).withS (st.s - 1)) := st.stored_sameBus _ _
  exact (this.writable _).trans h2

theorem stackAddr_toNat : ∀ k : Byte, (stackAddr k).toNat = 256 + k.toNat := by decide

/-- Two stack slots are one only when their offsets are. -/
theorem stackAddr_injective {k l : Byte} (h : stackAddr k = stackAddr l) : k = l := by
  have := congrArg BitVec.toNat h
  rw [stackAddr_toNat, stackAddr_toNat] at this
  exact BitVec.eq_of_toNat_eq (by omega)

theorem wordOf_bytes (w : Word) : wordOf (hiByte w) (loByte w) = w := by
  apply BitVec.eq_of_getLsbD_eq
  intro i hi
  unfold wordOf hiByte loByte
  rw [BitVec.getLsbD_append]
  by_cases h : i < 8
  · simp [h]
  · simp [h, show i - 8 < 8 by omega, show 8 + (i - 8) = i by omega]

theorem wordOf_toNat (hi lo : Byte) : (wordOf hi lo).toNat = 256 * hi.toNat + lo.toNat := by
  unfold wordOf
  rw [BitVec.toNat_append, ← Nat.shiftLeft_add_eq_or_of_lt lo.isLt, Nat.shiftLeft_eq]
  omega

/-! ## SetPC -/

theorem State.setPC_of_fits {st : State} {target : Int} (h : st.pcFits target) :
    st.setPC target = .go (st.withPc (st.pcAfter target)) := by
  unfold State.setPC State.pcAfter
  cases hc : st.cfg.pcOverflow
  · by_cases ht : target > 0xFFFF
    · simp [ht]
    · simp [ht, h hc]
  · simp

theorem State.setPC_of_not_fits {st : State} {target : Int} (h : ¬ st.pcFits target) :
    st.setPC target = .raised (.pcRange target) st := by
  unfold State.pcFits at h
  simp only [Classical.not_imp] at h
  unfold State.setPC
  rw [h.1]
  simp only
  rw [if_neg (by omega), if_neg h.2]

theorem State.pcFits_of_nonneg (st : State) {target : Int} (h : 0 ≤ target) : st.pcFits target := fun _ => h

/-- The next instruction in sequence is always reached. -/
theorem State.sequential_eq (len : Nat) (st : State) :
    st.sequential len = .go (st.withPc (st.pcAfter ((st.pc.toNat : Int) + len))) :=
  State.setPC_of_fits (st.pcFits_of_nonneg (by omega))

theorem State.setPC_word (w : Word) (st : State) : st.setPC (w.toNat : Int) = .go (st.withPc w) := by
  rw [State.setPC_of_fits (st.pcFits_of_nonneg (by omega))]
  congr 2
  unfold State.pcAfter
  split
  · simp
  · rw [if_neg (by have := w.isLt; omega)]; simp

theorem State.setPC_cases (target : Int) (st : State) :
    (∃ w, st.setPC target = .go (st.withPc w)) ∨ st.setPC target = .raised (.pcRange target) st := by
  by_cases h : st.pcFits target
  · exact Or.inl ⟨_, State.setPC_of_fits h⟩
  · exact Or.inr (State.setPC_of_not_fits h)

theorem State.pcAfter_congr {s t : State} (h : t.cfg = s.cfg) (target : Int) : t.pcAfter target = s.pcAfter target := by
  unfold State.pcAfter; rw [h]

theorem State.jumpThrough_eq (vector : Word) (st : State) :
    st.jumpThrough vector = .go ((st.memRead16 vector).2.withPc (st.memRead16 vector).1) :=
  State.setPC_word _ _

end Sys2Proof.Machine
end

