-- ==== Sys2Proof/Laws/Decode.lean ====
section
/-! SUPPORT. The opcode map read cell by cell: each cell's form builds the instructions whose bytes begin with that
opcode, and it is a bit instruction exactly when its mnemonic is. -/

namespace Sys2Proof

/-- The form's instructions are encoded as the opcode and their operand bytes, and are bit instructions or not. -/
def Form.Encodes (opcode : Byte) (bit : Bool) : Form → Prop
  | .f1 i => encode i = [opcode] ∧ i.isBitOp = bit
  | .f2 build => ∀ op1, encode (build op1) = [opcode, op1] ∧ (build op1).isBitOp = bit
  | .f3 build => ∀ op1 op2, encode (build op1 op2) = [opcode, op1, op2] ∧ (build op1 op2).isBitOp = bit

/-- A cell of the map stands in its place. -/
def Placed (opcode : Byte) (cell : Option Descriptor) : Prop :=
  match cell with
  | none => True
  | some d => d.form.Encodes opcode d.mnemonic.isBitOp

theorem loByte_wordOf (hi lo : Byte) : Machine.loByte (Machine.wordOf hi lo) = lo := by
  apply BitVec.eq_of_getLsbD_eq
  intro i hi'
  unfold Machine.loByte Machine.wordOf
  rw [BitVec.getLsbD_extractLsb', BitVec.getLsbD_append]
  simp [hi']

theorem hiByte_wordOf (hi lo : Byte) : Machine.hiByte (Machine.wordOf hi lo) = hi := by
  apply BitVec.eq_of_getLsbD_eq
  intro i hi'
  unfold Machine.hiByte Machine.wordOf
  rw [BitVec.getLsbD_extractLsb', BitVec.getLsbD_append]
  simp [hi']

theorem Form.Encodes.absolute {opcode : Byte} {bit : Bool} {build : Word → Instr}
    (h : ∀ a, encode (build a) = [opcode, Machine.loByte a, Machine.hiByte a] ∧ (build a).isBitOp = bit) :
    (Form.absolute build).Encodes opcode bit := by
  intro op1 op2
  refine ⟨(h _).1.trans ?_, (h _).2⟩
  rw [loByte_wordOf, hiByte_wordOf]

theorem opcodeRow0_placed : ∀ j, j < 16 → Placed (BitVec.ofNat 8 (0 + j)) (opcodeRow0.getD j none) := by
  intro j hj
  interval_cases j <;> first | trivial | exact ⟨rfl, rfl⟩ | exact fun _ => ⟨rfl, rfl⟩ | exact fun _ _ => ⟨rfl, rfl⟩ |
    exact .absolute fun _ => ⟨rfl, rfl⟩

theorem opcodeRow1_placed : ∀ j, j < 16 → Placed (BitVec.ofNat 8 (16 + j)) (opcodeRow1.getD j none) := by
  intro j hj
  interval_cases j <;> first | trivial | exact ⟨rfl, rfl⟩ | exact fun _ => ⟨rfl, rfl⟩ | exact fun _ _ => ⟨rfl, rfl⟩ |
    exact .absolute fun _ => ⟨rfl, rfl⟩

theorem opcodeRow2_placed : ∀ j, j < 16 → Placed (BitVec.ofNat 8 (32 + j)) (opcodeRow2.getD j none) := by
  intro j hj
  interval_cases j <;> first | trivial | exact ⟨rfl, rfl⟩ | exact fun _ => ⟨rfl, rfl⟩ | exact fun _ _ => ⟨rfl, rfl⟩ |
    exact .absolute fun _ => ⟨rfl, rfl⟩

theorem opcodeRow3_placed : ∀ j, j < 16 → Placed (BitVec.ofNat 8 (48 + j)) (opcodeRow3.getD j none) := by
  intro j hj
  interval_cases j <;> first | trivial | exact ⟨rfl, rfl⟩ | exact fun _ => ⟨rfl, rfl⟩ | exact fun _ _ => ⟨rfl, rfl⟩ |
    exact .absolute fun _ => ⟨rfl, rfl⟩

theorem opcodeRow4_placed : ∀ j, j < 16 → Placed (BitVec.ofNat 8 (64 + j)) (opcodeRow4.getD j none) := by
  intro j hj
  interval_cases j <;> first | trivial | exact ⟨rfl, rfl⟩ | exact fun _ => ⟨rfl, rfl⟩ | exact fun _ _ => ⟨rfl, rfl⟩ |
    exact .absolute fun _ => ⟨rfl, rfl⟩

theorem opcodeRow5_placed : ∀ j, j < 16 → Placed (BitVec.ofNat 8 (80 + j)) (opcodeRow5.getD j none) := by
  intro j hj
  interval_cases j <;> first | trivial | exact ⟨rfl, rfl⟩ | exact fun _ => ⟨rfl, rfl⟩ | exact fun _ _ => ⟨rfl, rfl⟩ |
    exact .absolute fun _ => ⟨rfl, rfl⟩

theorem opcodeRow6_placed : ∀ j, j < 16 → Placed (BitVec.ofNat 8 (96 + j)) (opcodeRow6.getD j none) := by
  intro j hj
  interval_cases j <;> first | trivial | exact ⟨rfl, rfl⟩ | exact fun _ => ⟨rfl, rfl⟩ | exact fun _ _ => ⟨rfl, rfl⟩ |
    exact .absolute fun _ => ⟨rfl, rfl⟩

theorem opcodeRow7_placed : ∀ j, j < 16 → Placed (BitVec.ofNat 8 (112 + j)) (opcodeRow7.getD j none) := by
  intro j hj
  interval_cases j <;> first | trivial | exact ⟨rfl, rfl⟩ | exact fun _ => ⟨rfl, rfl⟩ | exact fun _ _ => ⟨rfl, rfl⟩ |
    exact .absolute fun _ => ⟨rfl, rfl⟩

theorem opcodeRow8_placed : ∀ j, j < 16 → Placed (BitVec.ofNat 8 (128 + j)) (opcodeRow8.getD j none) := by
  intro j hj
  interval_cases j <;> first | trivial | exact ⟨rfl, rfl⟩ | exact fun _ => ⟨rfl, rfl⟩ | exact fun _ _ => ⟨rfl, rfl⟩ |
    exact .absolute fun _ => ⟨rfl, rfl⟩

theorem opcodeRow9_placed : ∀ j, j < 16 → Placed (BitVec.ofNat 8 (144 + j)) (opcodeRow9.getD j none) := by
  intro j hj
  interval_cases j <;> first | trivial | exact ⟨rfl, rfl⟩ | exact fun _ => ⟨rfl, rfl⟩ | exact fun _ _ => ⟨rfl, rfl⟩ |
    exact .absolute fun _ => ⟨rfl, rfl⟩

theorem opcodeRowA_placed : ∀ j, j < 16 → Placed (BitVec.ofNat 8 (160 + j)) (opcodeRowA.getD j none) := by
  intro j hj
  interval_cases j <;> first | trivial | exact ⟨rfl, rfl⟩ | exact fun _ => ⟨rfl, rfl⟩ | exact fun _ _ => ⟨rfl, rfl⟩ |
    exact .absolute fun _ => ⟨rfl, rfl⟩

theorem opcodeRowB_placed : ∀ j, j < 16 → Placed (BitVec.ofNat 8 (176 + j)) (opcodeRowB.getD j none) := by
  intro j hj
  interval_cases j <;> first | trivial | exact ⟨rfl, rfl⟩ | exact fun _ => ⟨rfl, rfl⟩ | exact fun _ _ => ⟨rfl, rfl⟩ |
    exact .absolute fun _ => ⟨rfl, rfl⟩

theorem opcodeRowC_placed : ∀ j, j < 16 → Placed (BitVec.ofNat 8 (192 + j)) (opcodeRowC.getD j none) := by
  intro j hj
  interval_cases j <;> first | trivial | exact ⟨rfl, rfl⟩ | exact fun _ => ⟨rfl, rfl⟩ | exact fun _ _ => ⟨rfl, rfl⟩ |
    exact .absolute fun _ => ⟨rfl, rfl⟩

theorem opcodeRowD_placed : ∀ j, j < 16 → Placed (BitVec.ofNat 8 (208 + j)) (opcodeRowD.getD j none) := by
  intro j hj
  interval_cases j <;> first | trivial | exact ⟨rfl, rfl⟩ | exact fun _ => ⟨rfl, rfl⟩ | exact fun _ _ => ⟨rfl, rfl⟩ |
    exact .absolute fun _ => ⟨rfl, rfl⟩

theorem opcodeRowE_placed : ∀ j, j < 16 → Placed (BitVec.ofNat 8 (224 + j)) (opcodeRowE.getD j none) := by
  intro j hj
  interval_cases j <;> first | trivial | exact ⟨rfl, rfl⟩ | exact fun _ => ⟨rfl, rfl⟩ | exact fun _ _ => ⟨rfl, rfl⟩ |
    exact .absolute fun _ => ⟨rfl, rfl⟩

theorem opcodeRowF_placed : ∀ j, j < 16 → Placed (BitVec.ofNat 8 (240 + j)) (opcodeRowF.getD j none) := by
  intro j hj
  interval_cases j <;> first | trivial | exact ⟨rfl, rfl⟩ | exact fun _ => ⟨rfl, rfl⟩ | exact fun _ _ => ⟨rfl, rfl⟩ |
    exact .absolute fun _ => ⟨rfl, rfl⟩

theorem opcodeMap_placed : ∀ k, k < 16 → ∀ j, j < 16 →
    Placed (BitVec.ofNat 8 (16 * k + j)) ((opcodeMap.getD k []).getD j none) := by
  intro k hk
  interval_cases k
  · exact opcodeRow0_placed
  · exact opcodeRow1_placed
  · exact opcodeRow2_placed
  · exact opcodeRow3_placed
  · exact opcodeRow4_placed
  · exact opcodeRow5_placed
  · exact opcodeRow6_placed
  · exact opcodeRow7_placed
  · exact opcodeRow8_placed
  · exact opcodeRow9_placed
  · exact opcodeRowA_placed
  · exact opcodeRowB_placed
  · exact opcodeRowC_placed
  · exact opcodeRowD_placed
  · exact opcodeRowE_placed
  · exact opcodeRowF_placed

/-- What the lookup finds stands in its place, and is a bit instruction only where those are tabulated. -/
theorem lookup_placed {bitOps : Bool} {opcode : Byte} {d : Descriptor} (h : lookup bitOps opcode = some d) :
    d.form.Encodes opcode d.mnemonic.isBitOp ∧ (d.mnemonic.isBitOp = true → bitOps = true) := by
  have hb := opcode.isLt
  have placed := opcodeMap_placed (opcode.toNat / 16) (by omega) (opcode.toNat % 16) (by omega)
  rw [Nat.div_add_mod, BitVec.ofNat_toNat, BitVec.setWidth_eq] at placed
  unfold lookup at h
  split at h
  · simp at h
  · rename_i e he
    rw [he] at placed
    split at h
    · simp at h
    · rename_i hc
      simp only [Option.some.injEq] at h
      subst h
      exact ⟨placed, by intro hm; simpa [hm] using hc⟩

end Sys2Proof
end

