-- ==== Sys2Proof/Laws/Flags.lean ====
section
/-! SUPPORT. Each flag computation read flag by flag. -/

namespace Sys2Proof.Machine

theorem bitMask_getLsbD (f g : Flag) : (bitMask f.bit).getLsbD g.bit = decide (g = f) := by
  cases f <;> cases g <;> decide

@[simp] theorem getFlag_setFlag_same (f : Flag) (on : Bool) (p : Byte) : getFlag f (setFlag f on p) = on := by
  unfold getFlag setFlag
  cases on
  · simp [bitMask_getLsbD]
  · simp [bitMask_getLsbD]

theorem getFlag_setFlag_other {f g : Flag} (h : g ≠ f) (on : Bool) (p : Byte) :
    getFlag g (setFlag f on p) = getFlag g p := by
  have hg : g.bit < 8 := by cases g <;> decide
  have hm : (bitMask f.bit).getLsbD g.bit = false := by simp [bitMask_getLsbD, h]
  unfold getFlag setFlag
  cases on
  · simp only [Bool.false_eq_true, if_false]
    rw [BitVec.getLsbD_and, BitVec.getLsbD_not, hm]
    simp [hg]
  · simp only [if_true]
    rw [BitVec.getLsbD_or, hm, Bool.or_false]

theorem getFlag_setFlag (f g : Flag) (on : Bool) (p : Byte) :
    getFlag g (setFlag f on p) = if g = f then on else getFlag g p := by
  split
  · subst g; exact getFlag_setFlag_same f on p
  · exact getFlag_setFlag_other ‹_› on p

theorem getFlag_hardwired (g : Flag) (p : Byte) : getFlag g (p ||| 0x20) = (getFlag g p || decide (g = .u)) := by
  unfold getFlag
  rw [BitVec.getLsbD_or]
  congr 1
  cases g <;> decide

theorem State.flag_withP (g : Flag) (v : Byte) (st : State) :
    (st.withP v).flag g = (getFlag g v || decide (g = .u)) := getFlag_hardwired g v

theorem State.flag_withFlag (f g : Flag) (on : Bool) (st : State) :
    (st.withFlag f on).flag g = ((if g = f then on else st.flag g) || decide (g = .u)) := by
  unfold State.withFlag
  rw [State.flag_withP, getFlag_setFlag]
  rfl

theorem State.flag_setNZ (g : Flag) (v : Byte) (st : State) :
    (st.setNZ v).flag g =
      ((if g = .z then decide (v = 0) else if g = .n then v.getLsbD 7 else st.flag g) || decide (g = .u)) := by
  unfold State.setNZ statusNZ
  rw [State.flag_withP, getFlag_setFlag, getFlag_setFlag]
  rfl

theorem State.flag_compare (g : Flag) (reg m : Byte) (st : State) :
    (st.compare reg m).flag g =
      ((if g = .z then decide (reg - m = 0) else if g = .n then (reg - m).getLsbD 7
        else if g = .c then decide (reg.toNat ≥ m.toNat) else st.flag g) || decide (g = .u)) := by
  unfold State.compare statusCompare statusNZ
  rw [State.flag_withP, getFlag_setFlag, getFlag_setFlag, getFlag_setFlag]
  rfl

theorem State.flag_withAlu (g : Flag) (res : AluResult) (st : State) :
    (st.withAlu res).flag g =
      ((if g = .z then decide (res.r = 0) else if g = .n then res.r.getLsbD 7 else if g = .v then res.v
        else if g = .c then res.c else st.flag g) || decide (g = .u)) := by
  unfold State.withAlu statusAlu statusNZ
  rw [State.flag_withP, getFlag_setFlag, getFlag_setFlag, getFlag_setFlag, getFlag_setFlag]
  rfl

theorem getFlag_statusBitTest (g : Flag) (a m p : Byte) :
    getFlag g (statusBitTest a m p) = if g = .z then decide (a &&& m = 0) else getFlag g p := by
  unfold statusBitTest; rw [getFlag_setFlag]

theorem getFlag_statusBitMemory (g : Flag) (a m p : Byte) :
    getFlag g (statusBitMemory a m p) =
      if g = .v then m.getLsbD 6 else if g = .n then m.getLsbD 7
      else if g = .z then decide (a &&& m = 0) else getFlag g p := by
  unfold statusBitMemory; rw [getFlag_setFlag, getFlag_setFlag, getFlag_statusBitTest]

/-- PLP and RTI take every flag from the pulled byte but B, which is 0, and U, which is 1 (R267, R313). -/
theorem getFlag_pulledStatus (g : Flag) (v : Byte) :
    getFlag g (pulledStatus v) = if g = .b then false else if g = .u then true else getFlag g v := by
  unfold getFlag pulledStatus
  rw [BitVec.getLsbD_or, BitVec.getLsbD_and]
  cases g <;> simp [Flag.bit]

/-! The two pushed copies and the pulled byte absorb the hardwired bit. -/

theorem pulledStatus_hardwired (v : Byte) : pulledStatus v ||| 0x20 = pulledStatus v := by
  unfold pulledStatus; rw [BitVec.or_assoc]; rfl

/-- A status byte whose U reads 1 is its own hardwired form. -/
theorem hardwired_of_u {p : Byte} (h : getFlag .u p = true) : p ||| 0x20 = p := by
  revert h; revert p; decide

/-- Two status bytes with the same flags are equal. -/
theorem status_ext {p q : Byte} (h : ∀ f, getFlag f p = getFlag f q) : p = q := by
  apply BitVec.eq_of_getLsbD_eq
  intro k hk
  interval_cases k
  · exact h .c
  · exact h .z
  · exact h .i
  · exact h .d
  · exact h .b
  · exact h .u
  · exact h .v
  · exact h .n

end Sys2Proof.Machine
end

