-- ==== Sys2Proof/Laws/Perform.lean ====
section
/-! SUPPORT. The 212 meanings through their operations: `exec` is one function of the instruction's operation, and each
class of R168 has one shape. A proof about every instruction goes through `exec_eq_perform`. -/

namespace Sys2Proof.Machine

/-! ## The classes -/

/-- The operand form of BIT chooses what it writes (R343). -/
def bitStatus (src : Source) (a m p : Byte) : Byte :=
  match src with
  | .imm _ => statusBitTest a m p
  | .mem _ => statusBitMemory a m p

/-- The result of ADC or SBC in the mode D selects (R200, R204). -/
def adcResult (st : State) (m : Byte) : AluResult :=
  if st.flag .d then addDec st.a m (st.flag .c) else addBin st.a m (st.flag .c)

def sbcResult (st : State) (m : Byte) : AluResult :=
  if st.flag .d then subDec st.a m (st.flag .c) else addBin st.a (~~~m) (st.flag .c)

/-- What a read-class operation does with its operand. -/
def applyRead (op : ReadOp) (src : Source) (m : Byte) (st : State) : State :=
  match op with
  | .lda => (st.withA m).setNZ m
  | .ldx => (st.withX m).setNZ m
  | .ldy => (st.withY m).setNZ m
  | .adc => st.withAlu (adcResult st m)
  | .sbc => st.withAlu (sbcResult st m)
  | .and => (st.withA (st.a &&& m)).setNZ (st.a &&& m)
  | .ora => (st.withA (st.a ||| m)).setNZ (st.a ||| m)
  | .eor => (st.withA (st.a ^^^ m)).setNZ (st.a ^^^ m)
  | .cmp => st.compare st.a m
  | .cpx => st.compare st.x m
  | .cpy => st.compare st.y m
  | .bit => st.withP (bitStatus src st.a m st.p)

/-- ADC and SBC fault in decimal mode under `DECIMAL_MODE = fault` (R200, R204). -/
def readFaults (op : ReadOp) (st : State) : Bool :=
  (op == .adc || op == .sbc) && st.flag .d && st.cfg.decimalMode == .fault

def performRead (opcode : Byte) (op : ReadOp) (src : Source) (st : State) : Flow :=
  let m := readSource src st
  if readFaults op m.2 then .raised (.notImplemented opcode m.2.pc) m.2
  else (applyRead op src m.1 m.2).sequential src.length

/-- The register or constant a store writes. -/
def writeValue (op : WriteOp) (st : State) : Byte :=
  match op with
  | .sta => st.a
  | .stx => st.x
  | .sty => st.y
  | .stz => 0x00

/-- What a read-modify-write operation writes before its Write. -/
def beforeWrite (op : ModifyOp) (m : Byte) (st : State) : State :=
  match op with
  | .asl => st.withFlag .c (aslByte m).c
  | .lsr => st.withFlag .c (lsrByte m).c
  | .rol => st.withFlag .c (rolByte m (st.flag .c)).c
  | .ror => st.withFlag .c (rorByte m (st.flag .c)).c
  | .inc | .dec | .rmb _ | .smb _ => st
  | .trb | .tsb => st.withP (statusBitTest st.a m st.p)

/-- The byte a read-modify-write operation writes back. -/
def modified (op : ModifyOp) (m : Byte) (st : State) : Byte :=
  match op with
  | .asl => (aslByte m).r
  | .lsr => (lsrByte m).r
  | .rol => (rolByte m (st.flag .c)).r
  | .ror => (rorByte m (st.flag .c)).r
  | .inc => m + 1
  | .dec => m - 1
  | .trb => m &&& ~~~st.a
  | .tsb => m ||| st.a
  | .rmb n => modifiedByte n false m
  | .smb n => modifiedByte n true m

/-- What a read-modify-write operation writes after its Write. -/
def afterWrite (op : ModifyOp) (r : Byte) (st : State) : State :=
  match op with
  | .asl | .lsr | .rol | .ror | .inc | .dec => st.setNZ r
  | .trb | .tsb | .rmb _ | .smb _ => st

def performModify (op : ModifyOp) (dst : MemOperand) (st : State) : Flow :=
  let t := readTarget dst st
  ((beforeWrite op t.m t.st).memWrite t.ea (modified op t.m t.st)).andThen fun st =>
    (afterWrite op (modified op t.m t.st) st).sequential dst.length

/-- The shift or rotate of an accumulator operation. -/
def accShift (op : AccOp) (v : Byte) (c : Bool) : ShiftResult :=
  match op with
  | .asl => aslByte v
  | .lsr => lsrByte v
  | .rol => rolByte v c
  | .ror => rorByte v c
  | .inc => ⟨v + 1, c⟩
  | .dec => ⟨v - 1, c⟩

def applyAcc (op : AccOp) (st : State) : State :=
  match op with
  | .asl | .lsr | .rol | .ror =>
    ((st.withFlag .c (accShift op st.a (st.flag .c)).c).withA (accShift op st.a (st.flag .c)).r).setNZ
      (accShift op st.a (st.flag .c)).r
  | .inc => (st.withA (st.a + 1)).setNZ (st.a + 1)
  | .dec => (st.withA (st.a - 1)).setNZ (st.a - 1)

def applyRegister (op : RegisterOp) (st : State) : State :=
  match op with
  | .tax => (st.withX st.a).setNZ st.a
  | .tay => (st.withY st.a).setNZ st.a
  | .txa => (st.withA st.x).setNZ st.x
  | .tya => (st.withA st.y).setNZ st.y
  | .tsx => (st.withX st.s).setNZ st.s
  | .txs => st.withS st.x
  | .inx => (st.withX (st.x + 1)).setNZ (st.x + 1)
  | .iny => (st.withY (st.y + 1)).setNZ (st.y + 1)
  | .dex => (st.withX (st.x - 1)).setNZ (st.x - 1)
  | .dey => (st.withY (st.y - 1)).setNZ (st.y - 1)

/-- The flag a flag instruction writes and what it writes there. -/
def flagWritten (op : FlagOp) : Flag × Bool :=
  match op with
  | .clc => (.c, false)
  | .sec => (.c, true)
  | .cli => (.i, false)
  | .sei => (.i, true)
  | .cld => (.d, false)
  | .sed => (.d, true)
  | .clv => (.v, false)

def pushValue (op : PushOp) (st : State) : Byte :=
  match op with
  | .pha => st.a
  | .phx => st.x
  | .phy => st.y
  | .php => pushedByInstruction st.p

def applyPull (op : PullOp) (v : Byte) (st : State) : State :=
  match op with
  | .pla => (st.withA v).setNZ v
  | .plx => (st.withX v).setNZ v
  | .ply => (st.withY v).setNZ v
  | .plp => st.withP (pulledStatus v)

def branchCond (op : BranchOp) (st : State) : Bool :=
  match op with
  | .bpl => !st.flag .n
  | .bmi => st.flag .n
  | .bvc => !st.flag .v
  | .bvs => st.flag .v
  | .bcc => !st.flag .c
  | .bcs => st.flag .c
  | .bne => !st.flag .z
  | .beq => st.flag .z
  | .bra => true

/-- The meaning of an operation, over all of its opcode rows. -/
def perform (opcode : Byte) (o : Operation) (st : State) : Flow :=
  match o with
  | .read .adc src => adc opcode src st
  | .read .sbc src => sbc opcode src st
  | .read op src => performRead opcode op src st
  | .write op dst => storeAt dst (writeValue op st) st
  | .modify op dst => performModify op dst st
  | .accumulator op => (applyAcc op st).sequential 1
  | .register op => (applyRegister op st).sequential 1
  | .flag op => (st.withFlag (flagWritten op).1 (flagWritten op).2).sequential 1
  | .push op => pushByte (pushValue op st) st
  | .pull op => (applyPull op st.pull.1 st.pull.2).sequential 1
  | .branch op d => branch (branchCond op st) d st
  | .branchBit n want z d => branchBit n want z d st
  | .jmp a => jmp a st
  | .jmpInd a => jmpIndirect a st
  | .jmpIndX a => jmpIndexedIndirect a st
  | .jsr a => jsr a st
  | .rts => rts st
  | .rti => rti st
  | .brk _ => brk st
  | .wai => (st.withWaiting true).sequential 1
  | .stp => (st.withStp true).sequential 1
  | .nop => st.sequential 1

/-! ## Each meaning is its class's shape -/

theorem adc_eq (opcode : Byte) (src : Source) (st : State) : adc opcode src st = performRead opcode .adc src st := by
  simp only [adc, performRead]
  generalize readSource src st = m
  cases hd : m.2.flag .d <;> cases hm : m.2.cfg.decimalMode <;> simp [readFaults, applyRead, adcResult, hd, hm]

theorem sbc_eq (opcode : Byte) (src : Source) (st : State) : sbc opcode src st = performRead opcode .sbc src st := by
  simp only [sbc, performRead]
  generalize readSource src st = m
  cases hd : m.2.flag .d <;> cases hm : m.2.cfg.decimalMode <;> simp [readFaults, applyRead, sbcResult, hd, hm]

theorem perform_read (opcode : Byte) (op : ReadOp) (src : Source) (st : State) :
    perform opcode (.read op src) st = performRead opcode op src st := by
  cases op with
  | adc => exact adc_eq opcode src st
  | sbc => exact sbc_eq opcode src st
  | _ => rfl

/-- Every instruction is its operation. -/
theorem exec_eq_perform (i : Instr) (st : State) : exec i st = (perform i.opcode i.operation st).outcome := by
  cases i <;> rfl

/-- `exec` always answers a next state. -/
theorem exec_eq_next (i : Instr) (st : State) : exec i st = .next (perform i.opcode i.operation st).final := by
  rw [exec_eq_perform, Flow.outcome_eq]

/-! ## Completion, class by class -/

theorem performRead_eq {op : ReadOp} {src : Source} {st : State} (opcode : Byte)
    (h : readFaults op (readSource src st).2 = false) :
    performRead opcode op src st = .go ((applyRead op src (readSource src st).1 (readSource src st).2).withPc
      ((applyRead op src (readSource src st).1 (readSource src st).2).pcAfter
        (((applyRead op src (readSource src st).1 (readSource src st).2).pc.toNat : Int) + src.length))) := by
  unfold performRead
  simp only [h, Bool.false_eq_true, if_false]
  exact State.sequential_eq _ _

/-- Only ADC and SBC can fault in the read class. -/
theorem readFaults_other {op : ReadOp} (st : State) (h1 : op ≠ .adc) (h2 : op ≠ .sbc) : readFaults op st = false := by
  cases op <;> simp_all [readFaults]

theorem storeAt_eq {dst : MemOperand} (v : Byte) {st : State} (h : st.writable (effectiveAddress dst st).1 = true) :
    storeAt dst v st = .go (((effectiveAddress dst st).2.stored (effectiveAddress dst st).1 v).withPc
      (st.pcAfter ((st.pc.toNat : Int) + dst.length))) := by
  unfold storeAt
  rw [State.memWrite_of_writable v (((effectiveAddress_sameBus dst st).writable _).trans h), Flow.andThen_go,
    State.sequential_eq]
  congr 2
  show State.pcAfter _ (((effectiveAddress dst st).2.pc.toNat : Int) + dst.length) = _
  rw [effectiveAddress_pc]
  exact State.pcAfter_congr (effectiveAddress_cfg dst st) _

theorem beforeWrite_sameBus (op : ModifyOp) (m : Byte) (st : State) : st.SameBus (beforeWrite op m st) := by
  cases op <;> exact ⟨rfl, rfl⟩

theorem performModify_eq {op : ModifyOp} {dst : MemOperand} {st : State}
    (h : st.writable (effectiveAddress dst st).1 = true) :
    performModify op dst st =
      .go ((afterWrite op (modified op (readTarget dst st).m (readTarget dst st).st)
        ((beforeWrite op (readTarget dst st).m (readTarget dst st).st).stored (effectiveAddress dst st).1
          (modified op (readTarget dst st).m (readTarget dst st).st))).withPc
        (st.pcAfter ((st.pc.toNat : Int) + dst.length))) := by
  have hb := (readTarget_sameBus dst st).trans (beforeWrite_sameBus op (readTarget dst st).m (readTarget dst st).st)
  unfold performModify
  simp only
  rw [show (readTarget dst st).ea = (effectiveAddress dst st).1 from rfl,
    State.memWrite_of_writable _ ((hb.writable _).trans h), Flow.andThen_go, State.sequential_eq]
  congr 2
  have hpc : ∀ r t, (afterWrite op r t).pc = t.pc := by intro r t; cases op <;> rfl
  have hcfg : ∀ r t, (afterWrite op r t).cfg = t.cfg := by intro r t; cases op <;> rfl
  have hpb : ∀ m t, (beforeWrite op m t).pc = t.pc := by intro r t; cases op <;> rfl
  rw [hpc]
  show State.pcAfter _ (((beforeWrite op (readTarget dst st).m (readTarget dst st).st).pc.toNat : Int) + _) = _
  rw [hpb, readTarget_pc]
  apply State.pcAfter_congr
  rw [hcfg]
  exact hb.1

theorem pushByte_eq (v : Byte) {st : State} (h : st.writable (stackAddr st.s) = true) :
    pushByte v st = .go (((st.stored (stackAddr st.s) v).withS (st.s - 1)).withPc
      (st.pcAfter ((st.pc.toNat : Int) + 1))) := by
  unfold pushByte
  rw [State.push_of_writable v h, Flow.andThen_go]
  exact State.sequential_eq 1 _

theorem branch_eq {cond : Bool} {d : Byte} {st : State}
    (h : cond = true → st.pcFits ((st.pc.toNat : Int) + 2 + s8 d)) :
    branch cond d st = .go (st.withPc (st.pcAfter
      (if cond then (st.pc.toNat : Int) + 2 + s8 d else (st.pc.toNat : Int) + 2))) := by
  unfold branch
  cases cond
  · exact State.setPC_of_fits (st.pcFits_of_nonneg (by omega))
  · exact State.setPC_of_fits (h rfl)

theorem branchBit_eq (n : Nat) (want : Bool) (z d : Byte) {st : State}
    (h : (st.memRead (zext z)).1.getLsbD n = want → st.pcFits ((st.pc.toNat : Int) + 3 + s8 d)) :
    branchBit n want z d st = .go ((st.memRead (zext z)).2.withPc (st.pcAfter
      (if (st.memRead (zext z)).1.getLsbD n = want then (st.pc.toNat : Int) + 3 + s8 d
       else (st.pc.toNat : Int) + 3))) := by
  have key : ∀ target, st.pcFits target →
      (st.memRead (zext z)).2.setPC target = .go ((st.memRead (zext z)).2.withPc (st.pcAfter target)) := by
    intro target ht
    rw [State.setPC_of_fits (fun hc => ht (by simpa using hc)), State.pcAfter_congr (State.memRead_cfg _ st)]
  unfold branchBit
  simp only [State.memRead_pc]
  split
  · exact key _ (h ‹_›)
  · exact key _ (st.pcFits_of_nonneg (by omega))

theorem jmp_eq (a : Word) (st : State) : jmp a st = .go (st.withPc a) := State.setPC_word a st

theorem jmpIndirect_eq (a : Word) (st : State) :
    jmpIndirect a st = .go ((st.memRead16 a).2.withPc (st.memRead16 a).1) := State.setPC_word _ _

theorem jmpIndexedIndirect_eq (a : Word) (st : State) :
    jmpIndexedIndirect a st = .go ((st.memRead16 (a + zext st.x)).2.withPc (st.memRead16 (a + zext st.x)).1) :=
  State.setPC_word _ _

theorem jsr_eq (a : Word) {st : State} (h1 : st.writable (stackAddr st.s) = true)
    (h2 : st.writable (stackAddr (st.s - 1)) = true) :
    jsr a st = .go (((((st.stored (stackAddr st.s) (hiByte (st.pc + 2))).withS (st.s - 1)).stored
      (stackAddr (st.s - 1)) (loByte (st.pc + 2))).withS (st.s - 1 - 1)).withPc a) := by
  unfold jsr
  rw [State.pushWord_of_writable _ h1 h2, Flow.andThen_go, State.setPC_word]

theorem rts_eq (st : State) :
    rts st = .go (st.pullWord.2.withPc (st.pcAfter ((st.pullWord.1.toNat : Int) + 1))) := by
  unfold rts
  rw [State.setPC_of_fits (State.pcFits_of_nonneg _ (by omega)), State.pcAfter_congr (State.pullWord_cfg st)]

theorem rti_eq (st : State) :
    rti st = .go ((st.pull.2.withP (pulledStatus st.pull.1)).pullWord.2.withPc
      (st.pull.2.withP (pulledStatus st.pull.1)).pullWord.1) := State.setPC_word _ _

/-- The state of an exception entry after its three pushes, when their slots may be written. -/
def Entry.saved (e : Entry) (st : State) : State :=
  ((e.markBreak ((((st.stored (stackAddr st.s) (hiByte (e.returnAddress st))).withS (st.s - 1)).stored
    (stackAddr (st.s - 1)) (loByte (e.returnAddress st))).withS (st.s - 1 - 1))).stored (stackAddr (st.s - 1 - 1))
      (e.statusCopy (e.markBreak st).p)).withS (st.s - 1 - 1 - 1)

theorem State.takeException_eq (e : Entry) {st : State} (h1 : st.writable (stackAddr st.s) = true)
    (h2 : st.writable (stackAddr (st.s - 1)) = true) (h3 : st.writable (stackAddr (st.s - 1 - 1)) = true) :
    st.takeException e = .go (((e.mask (e.saved st)).memRead16 e.vector).2.withPc
      ((e.mask (e.saved st)).memRead16 e.vector).1) := by
  unfold State.takeException
  rw [State.pushWord_of_writable _ h1 h2, Flow.andThen_go]
  cases e <;>
  · rw [State.push_of_writable, Flow.andThen_go]
    · exact State.jumpThrough_eq _ _
    · refine Eq.trans (State.SameBus.writable ?_ _) h3
      exact (st.stored_sameBus _ _).trans (State.stored_sameBus (st := State.withS (st.s - 1) _) _ _)

/-- BRK taken is the exception entry; otherwise it passes on. -/
theorem brk_eq (st : State) :
    brk st = if !st.flag .i || st.cfg.brkMasked == .hardware then st.takeException .brk
      else if st.cfg.brkMasked = .halt then (st.withFlag .b true).sequential 2 else st.sequential 2 := by
  unfold brk
  cases st.flag .i <;> cases st.cfg.brkMasked <;> rfl

end Sys2Proof.Machine
end

