-- ==== Sys2Proof/Laws/Frames.lean ====
section
/-! SUPPORT. What an instruction keeps. A property that survives the bus operations, a PC write and a latched fault
survives an instruction as soon as it survives that instruction's own updates; frames and invariants are both of this
form. -/

namespace Sys2Proof.Machine

/-- The property survives the bus, PC writes and a latched fault. -/
structure Stable (P : State → Prop) : Prop where
  read : ∀ a st, P st → P (st.memRead a).2
  stored : ∀ a v st, P st → P (st.stored a v)
  pc : ∀ v st, P st → P (st.withPc v)
  latch : ∀ r st, P st → P (st.latch r)

/-- A property of fields that the bus, PC writes and faults leave alone. -/
theorem Stable.of_frame {α : Type} (φ : State → α) (c : α) (devices : ∀ v st, φ (st.withDevices v) = φ st)
    (tick : ∀ st : State, φ st.tick = φ st) (pc : ∀ v st, φ (State.withPc v st) = φ st)
    (latch : ∀ r st, φ (State.latch r st) = φ st) : Stable fun st => φ st = c where
  read _ st h := (devices _ _).trans ((tick st).trans h)
  stored _ _ st h := (devices _ _).trans ((tick st).trans h)
  pc v st h := (pc v st).trans h
  latch r st h := (latch r st).trans h

theorem Stable.memoryWf : Stable State.memoryWf where
  read a _ h := State.memRead_memoryWf a h
  stored a v _ h := State.stored_memoryWf a v h
  pc _ _ h := h
  latch _ _ h := h

variable {P : State → Prop}

/-- Both ways a flow can stand have the property. -/
def Flow.Has (P : State → Prop) (f : Flow) : Prop := P f.state

theorem Flow.Has.final {f : Flow} (hP : Stable P) (h : f.Has P) : P f.final := by
  cases f with
  | go st => exact h
  | raised r st => exact hP.latch r st h

theorem Flow.Has.andThen {f : Flow} {k : State → Flow} (hf : f.Has P) (hk : ∀ st, P st → (k st).Has P) :
    (f.andThen k).Has P := by
  cases f with
  | go st => exact hk st hf
  | raised r st => exact hf

namespace Stable

variable (hP : Stable P)
include hP

theorem read16 (a : Word) (st : State) (h : P st) : P (st.memRead16 a).2 := hP.read _ _ (hP.read _ _ h)

theorem zpRead16 (z : Byte) (st : State) (h : P st) : P (st.zpRead16 z).2 := hP.read _ _ (hP.read _ _ h)

theorem effectiveAddress (o : MemOperand) (st : State) (h : P st) : P (effectiveAddress o st).2 := by
  cases o with
  | zp | zpX | zpY | abs | absX | absY => exact h
  | zpIndX z => exact hP.zpRead16 _ _ h
  | zpIndY z => exact hP.zpRead16 _ _ h
  | zpInd z => exact hP.zpRead16 _ _ h

theorem readSource (src : Source) (st : State) (h : P st) : P (readSource src st).2 := by
  cases src with
  | imm => exact h
  | mem o => exact hP.read _ _ (hP.effectiveAddress o st h)

theorem readTarget (o : MemOperand) (st : State) (h : P st) : P (readTarget o st).st :=
  hP.read _ _ (hP.effectiveAddress o st h)

theorem memWrite (a : Word) (v : Byte) (st : State) (h : P st) : (st.memWrite a v).Has P := by
  unfold Flow.Has
  rw [State.memWrite_state]
  exact hP.stored a v st h

theorem setPC (target : Int) (st : State) (h : P st) : (st.setPC target).Has P := by
  rcases st.setPC_cases target with ⟨w, hw⟩ | hw <;> rw [hw]
  · exact hP.pc w st h
  · exact h

theorem sequential (len : Nat) (st : State) (h : P st) : (st.sequential len).Has P := hP.setPC _ _ h

variable (hS : ∀ v st, P st → P (State.withS v st))
include hS

theorem push (v : Byte) (st : State) (h : P st) : (st.push v).Has P :=
  (hP.memWrite _ _ _ h).andThen fun st h => hS _ st h

theorem pushWord (w : Word) (st : State) (h : P st) : (st.pushWord w).Has P :=
  (hP.push hS _ _ h).andThen fun st h => hP.push hS _ st h

theorem pull (st : State) (h : P st) : P st.pull.2 := hP.read _ _ (hS _ _ h)

theorem pullWord (st : State) (h : P st) : P st.pullWord.2 := hP.pull hS _ (hP.pull hS _ h)

end Stable

/-- The updates an operation makes of its own, besides bus transactions and the PC write, keep the property. BRK, whose
updates keep some properties only together, gives its own proof. -/
def KeptBy (P : State → Prop) (o : Operation) : Prop :=
  match o with
  | .read op src => ∀ m st, P st → P (applyRead op src m st)
  | .write _ _ => True
  | .modify op _ => (∀ m st, P st → P (beforeWrite op m st)) ∧ ∀ r st, P st → P (afterWrite op r st)
  | .accumulator op => ∀ st, P st → P (applyAcc op st)
  | .register op => ∀ st, P st → P (applyRegister op st)
  | .flag op => ∀ st, P st → P (st.withFlag (flagWritten op).1 (flagWritten op).2)
  | .push _ => ∀ v st, P st → P (State.withS v st)
  | .pull op => (∀ v st, P st → P (State.withS v st)) ∧ ∀ v st, P st → P (applyPull op v st)
  | .jsr _ | .rts => ∀ v st, P st → P (State.withS v st)
  | .rti => (∀ v st, P st → P (State.withS v st)) ∧ ∀ v st, P st → P (st.withP (pulledStatus v))
  | .brk _ => ∀ st, P st → P (brk st).final
  | .wai => ∀ st, P st → P (st.withWaiting true)
  | .stp => ∀ st, P st → P (st.withStp true)
  | .branch _ _ | .branchBit _ _ _ _ | .jmp _ | .jmpInd _ | .jmpIndX _ | .nop => True

/-- The frame theorem: an operation keeps what the machine's parts and its own updates keep. -/
theorem perform_keeps (hP : Stable P) (opcode : Byte) (o : Operation) (hK : KeptBy P o) (st : State) (h : P st) :
    P (perform opcode o st).final := by
  cases o with
  | read op src =>
    rw [perform_read]
    apply Flow.Has.final hP
    unfold performRead
    simp only
    split
    · exact hP.readSource src st h
    · exact hP.sequential _ _ (hK _ _ (hP.readSource src st h))
  | write op dst =>
    exact ((hP.memWrite _ _ _ (hP.effectiveAddress dst st h)).andThen fun st h => hP.sequential _ st h).final hP
  | modify op dst =>
    exact ((hP.memWrite _ _ _ (hK.1 _ _ (hP.readTarget dst st h))).andThen fun st h =>
      hP.sequential _ _ (hK.2 _ st h)).final hP
  | accumulator op => exact (hP.sequential _ _ (hK st h)).final hP
  | register op => exact (hP.sequential _ _ (hK st h)).final hP
  | flag op => exact (hP.sequential _ _ (hK st h)).final hP
  | push op => exact ((hP.push hK _ _ h).andThen fun st h => hP.sequential _ st h).final hP
  | pull op => exact (hP.sequential _ _ (hK.2 _ _ (hP.pull hK.1 st h))).final hP
  | branch op d =>
    apply Flow.Has.final hP
    show (branch _ d st).Has P
    unfold branch
    split <;> exact hP.setPC _ _ h
  | branchBit n want z d =>
    apply Flow.Has.final hP
    show (branchBit n want z d st).Has P
    unfold branchBit
    simp only
    split <;> exact hP.setPC _ _ (hP.read _ _ h)
  | jmp a => exact (hP.setPC _ _ h).final hP
  | jmpInd a => exact (hP.setPC _ _ (hP.read16 _ _ h)).final hP
  | jmpIndX a => exact (hP.setPC _ _ (hP.read16 _ _ h)).final hP
  | jsr a => exact ((hP.pushWord hK _ _ h).andThen fun st h => hP.setPC _ st h).final hP
  | rts => exact (hP.setPC _ _ (hP.pullWord hK st h)).final hP
  | rti => exact (hP.setPC _ _ (hP.pullWord hK.1 _ (hK.2 _ _ (hP.pull hK.1 st h)))).final hP
  | brk sig => exact hK st h
  | wai => exact (hP.sequential _ _ (hK st h)).final hP
  | stp => exact (hP.sequential _ _ (hK st h)).final hP
  | nop => exact (hP.sequential _ _ h).final hP

/-- The exception entry keeps what pushes, its flag writes and a write of `waiting` keep. -/
theorem takeException_has (hP : Stable P) (hS : ∀ v st, P st → P (State.withS v st))
    (hB : ∀ e st, P st → P (Entry.markBreak e st)) (hM : ∀ e st, P st → P (Entry.mask e st)) (e : Entry) (st : State)
    (h : P st) : (st.takeException e).Has P :=
  (hP.pushWord hS _ _ h).andThen fun st h =>
    (hP.push hS _ _ (hB e st h)).andThen fun st h => hP.setPC _ _ (hP.read16 _ _ (hM e st h))

end Sys2Proof.Machine
end

