-- ==== Sys2Proof/Laws/HostPort.lean ====
section
/-! SUPPORT. The device agents (spec/20_memory.md R97) and the load (R78 (d), R91, spec/60_exceptions.md R508). -/

namespace Sys2Proof.Machine

/-! ## A step of a device agent -/

@[simp] theorem Device.ownStep_attr (chip : ChipSelect) (choice : Nat) (d : Device) :
    (d.ownStep chip choice).attr = d.attr := by
  unfold Device.ownStep; split <;> rfl

@[simp] theorem Device.ownStep_cells (chip : ChipSelect) (choice : Nat) (d : Device) :
    (d.ownStep chip choice).cells = d.cells := by
  unfold Device.ownStep; split <;> rfl

theorem Device.ownStep_of_other {chip : ChipSelect} (choice : Nat) {d : Device}
    (h : d.attr.mappedIo ≠ chip ∨ d.attr.mappedIo.isIo = false) : d.ownStep chip choice = d := by
  unfold Device.ownStep
  rcases h with h | h <;> simp [h]

/-- A device agent touches nothing but the devices. -/
theorem State.deviceStep_eq (chip : ChipSelect) (choice : Nat) (st : State) :
    st.deviceStep chip choice = { st with devices := st.devices.map fun d => d.ownStep chip choice } := rfl

theorem State.deviceStep_sameBus (chip : ChipSelect) (choice : Nat) (st : State) :
    st.SameBus (st.deviceStep chip choice) := by
  refine ⟨rfl, ?_⟩
  simp [State.attrs, State.deviceStep_eq]

theorem State.deviceStep_memoryWf (chip : ChipSelect) (choice : Nat) {st : State} (h : st.memoryWf) :
    (st.deviceStep chip choice).memoryWf := by
  intro d hd
  obtain ⟨e, he, rfl⟩ := List.mem_map.1 hd
  show (e.ownStep chip choice).wf st.cfg = true
  simpa [Device.wf] using h e he

theorem peekDevices_ownStep (cfg : Config) (sel : List ChipSelect) (a : Word) (chip : ChipSelect) (choice : Nat)
    (ds : List Device) : ∀ data : Option Byte,
    peekDevices cfg sel a data (ds.map fun d => d.ownStep chip choice) = peekDevices cfg sel a data ds := by
  induction ds with
  | nil => intro data; rfl
  | cons d rest ih =>
    intro data
    simp only [List.map_cons, peekDevices, ih, Device.readsFor_congr (Device.ownStep_attr chip choice d),
      Device.peek_congr cfg a data (Device.ownStep_attr chip choice d) (Device.ownStep_cells chip choice d)]

/-- No byte of RAM or ROM is touched by a device agent. -/
@[simp] theorem State.deviceStep_peek (chip : ChipSelect) (choice : Nat) (a : Word) (st : State) :
    (st.deviceStep chip choice).peek a = st.peek a :=
  peekDevices_ownStep _ _ _ _ _ _ _

/-! ## The load -/

/-- The flash keeps the device's attributes. -/
theorem flash_attr {cfg : Config} {image : RomImage} {d e : Device} (h : flash cfg image d = .ok e) :
    e.attr = d.attr := by
  unfold flash at h
  split at h
  · cases h
  · split at h
    · cases h
    · cases h; rfl

theorem rangeWithinCapacity_congr (ranges : List AddressRange) {d e : Device} (h : d.attr = e.attr) :
    rangeWithinCapacity ranges d = rangeWithinCapacity ranges e := by
  unfold rangeWithinCapacity; rw [h]

/-- Every device a load attaches has passed R78 (d). -/
theorem attachAll_within {cfg : Config} {attachments : List Attachment} :
    ∀ {ds : List Device}, attachAll cfg attachments = .ok ds → ∀ d ∈ ds, rangeWithinCapacity cfg.ranges d = true := by
  induction attachments with
  | nil => intro ds h d hd; cases h; cases hd
  | cons one rest ih =>
    intro ds h d hd
    unfold attachAll at h
    split at h
    · rename_i fits
      split at h
      · split at h
        · rename_i more hm
          cases h
          rcases List.mem_cons.1 hd with rfl | hd
          · exact fits
          · exact ih hm d hd
        · cases h
      · split at h
        · cases h
        · rename_i flashed hf
          split at h
          · rename_i more hm
            cases h
            rcases List.mem_cons.1 hd with rfl | hd
            · exact (rangeWithinCapacity_congr _ (flash_attr hf)).trans fits
            · exact ih hm d hd
          · cases h
    · cases h

/-- A configured range of the device's chip-select is the device's own, and its array holds it. -/
theorem rangeWithinCapacity_spec {ranges : List AddressRange} {d : Device} (h : rangeWithinCapacity ranges d = true) :
    d.attr.endAddress.toNat - d.attr.startAddress.toNat + 1 ≤ d.attr.capacity ∧
      ∀ r ∈ ranges, r.chip = d.attr.mappedIo → r.start = d.attr.startAddress ∧ r.stop = d.attr.endAddress := by
  simp only [rangeWithinCapacity, Bool.and_eq_true, decide_eq_true_eq, List.all_eq_true, Bool.or_eq_true,
    Bool.not_eq_true', decide_eq_false_iff_not] at h
  exact ⟨h.1, fun r hr hc => (h.2 r hr).resolve_left fun n => n hc⟩

/-- On a loaded bus a selected device's array holds the address (log entry 7). -/
theorem Device.index_of_within {ranges : List AddressRange} {d : Device} (h : rangeWithinCapacity ranges d = true)
    {a : Word} (hs : d.selected (decodeAddress ranges a) = true) : (d.index a).isSome = true := by
  obtain ⟨cap, own⟩ := rangeWithinCapacity_spec h
  simp only [Device.selected, Bool.and_eq_true, List.contains_iff_mem, decodeAddress, List.mem_map, List.mem_filter,
    decide_eq_true_eq] at hs
  obtain ⟨-, r, ⟨hr, lo, hi⟩, hc⟩ := hs
  obtain ⟨e1, e2⟩ := own r hr hc
  rw [e1, BitVec.le_def] at lo
  rw [e2, BitVec.le_def] at hi
  unfold Device.index
  rw [if_pos ⟨BitVec.le_def.2 lo, by omega⟩]
  rfl

/-- A configuration error is published, and nothing else of the state changes (R507, R508). -/
theorem State.configureAndFlash_of_error {cfg : Config} {attachments : List Attachment} {st : State} {e : Fault}
    (h : configure cfg attachments st = .error e) :
    st.configureAndFlash cfg attachments = st.publish (.configError e) := by
  unfold State.configureAndFlash; rw [h]

theorem State.configureAndFlash_of_ok {cfg : Config} {attachments : List Attachment} {s t : State}
    (h : configure cfg attachments s = .ok t) : s.configureAndFlash cfg attachments = t := by
  unfold State.configureAndFlash; rw [h]

end Sys2Proof.Machine
end

