-- ==== Sys2Proof/Laws/PerInstr.lean ====
section
/-! SUPPORT. Facts about every instruction as syntax, one lemma per constructor: its bytes begin with the opcode the
map of R130 gives it, and their number is the length of its format (R120, R121, R127). -/

namespace Sys2Proof.Laws.EncodingFormat

/-- The descriptor that the opcode map gives the instruction's first byte has the instruction's own mnemonic, mode and
length. -/
def Statement (i : Instr) : Prop :=
  ((lookup true (i.opcode)).map fun d => (d.mnemonic, d.mode, d.length)) =
    some (i.operation.mnemonic, i.operation.mode, (encode i).length)

/-- The descriptor is found from the opcode byte alone. -/
theorem statement_of_opcode {i : Instr} (opcode : Byte) (h : i.opcode = opcode)
    (row : ((lookup true opcode).map fun d => (d.mnemonic, d.mode, d.length)) =
      some (i.operation.mnemonic, i.operation.mode, (encode i).length)) : Statement i := by
  rw [Statement, h]
  exact row

theorem brk (sig : Byte) : Statement (.brk sig) :=
  statement_of_opcode 0x00 rfl rfl
theorem oraZpIndX (z : Byte) : Statement (.oraZpIndX z) :=
  statement_of_opcode 0x01 rfl rfl
theorem tsbZp (z : Byte) : Statement (.tsbZp z) :=
  statement_of_opcode 0x04 rfl rfl
theorem oraZp (z : Byte) : Statement (.oraZp z) :=
  statement_of_opcode 0x05 rfl rfl
theorem aslZp (z : Byte) : Statement (.aslZp z) :=
  statement_of_opcode 0x06 rfl rfl
theorem rmb0 (z : Byte) : Statement (.rmb0 z) :=
  statement_of_opcode 0x07 rfl rfl
theorem php : Statement (.php) :=
  statement_of_opcode 0x08 rfl rfl
theorem oraImm (m : Byte) : Statement (.oraImm m) :=
  statement_of_opcode 0x09 rfl rfl
theorem aslAcc : Statement (.aslAcc) :=
  statement_of_opcode 0x0A rfl rfl
theorem tsbAbs (a : Word) : Statement (.tsbAbs a) :=
  statement_of_opcode 0x0C rfl rfl
theorem oraAbs (a : Word) : Statement (.oraAbs a) :=
  statement_of_opcode 0x0D rfl rfl
theorem aslAbs (a : Word) : Statement (.aslAbs a) :=
  statement_of_opcode 0x0E rfl rfl
theorem bbr0 (z : Byte) (d : Byte) : Statement (.bbr0 z d) :=
  statement_of_opcode 0x0F rfl rfl
theorem bpl (d : Byte) : Statement (.bpl d) :=
  statement_of_opcode 0x10 rfl rfl
theorem oraZpIndY (z : Byte) : Statement (.oraZpIndY z) :=
  statement_of_opcode 0x11 rfl rfl
theorem oraZpInd (z : Byte) : Statement (.oraZpInd z) :=
  statement_of_opcode 0x12 rfl rfl
theorem trbZp (z : Byte) : Statement (.trbZp z) :=
  statement_of_opcode 0x14 rfl rfl
theorem oraZpX (z : Byte) : Statement (.oraZpX z) :=
  statement_of_opcode 0x15 rfl rfl
theorem aslZpX (z : Byte) : Statement (.aslZpX z) :=
  statement_of_opcode 0x16 rfl rfl
theorem rmb1 (z : Byte) : Statement (.rmb1 z) :=
  statement_of_opcode 0x17 rfl rfl
theorem clc : Statement (.clc) :=
  statement_of_opcode 0x18 rfl rfl
theorem oraAbsY (a : Word) : Statement (.oraAbsY a) :=
  statement_of_opcode 0x19 rfl rfl
theorem incAcc : Statement (.incAcc) :=
  statement_of_opcode 0x1A rfl rfl
theorem trbAbs (a : Word) : Statement (.trbAbs a) :=
  statement_of_opcode 0x1C rfl rfl
theorem oraAbsX (a : Word) : Statement (.oraAbsX a) :=
  statement_of_opcode 0x1D rfl rfl
theorem aslAbsX (a : Word) : Statement (.aslAbsX a) :=
  statement_of_opcode 0x1E rfl rfl
theorem bbr1 (z : Byte) (d : Byte) : Statement (.bbr1 z d) :=
  statement_of_opcode 0x1F rfl rfl
theorem jsr (a : Word) : Statement (.jsr a) :=
  statement_of_opcode 0x20 rfl rfl
theorem andZpIndX (z : Byte) : Statement (.andZpIndX z) :=
  statement_of_opcode 0x21 rfl rfl
theorem bitZp (z : Byte) : Statement (.bitZp z) :=
  statement_of_opcode 0x24 rfl rfl
theorem andZp (z : Byte) : Statement (.andZp z) :=
  statement_of_opcode 0x25 rfl rfl
theorem rolZp (z : Byte) : Statement (.rolZp z) :=
  statement_of_opcode 0x26 rfl rfl
theorem rmb2 (z : Byte) : Statement (.rmb2 z) :=
  statement_of_opcode 0x27 rfl rfl
theorem plp : Statement (.plp) :=
  statement_of_opcode 0x28 rfl rfl
theorem andImm (m : Byte) : Statement (.andImm m) :=
  statement_of_opcode 0x29 rfl rfl
theorem rolAcc : Statement (.rolAcc) :=
  statement_of_opcode 0x2A rfl rfl
theorem bitAbs (a : Word) : Statement (.bitAbs a) :=
  statement_of_opcode 0x2C rfl rfl
theorem andAbs (a : Word) : Statement (.andAbs a) :=
  statement_of_opcode 0x2D rfl rfl
theorem rolAbs (a : Word) : Statement (.rolAbs a) :=
  statement_of_opcode 0x2E rfl rfl
theorem bbr2 (z : Byte) (d : Byte) : Statement (.bbr2 z d) :=
  statement_of_opcode 0x2F rfl rfl
theorem bmi (d : Byte) : Statement (.bmi d) :=
  statement_of_opcode 0x30 rfl rfl
theorem andZpIndY (z : Byte) : Statement (.andZpIndY z) :=
  statement_of_opcode 0x31 rfl rfl
theorem andZpInd (z : Byte) : Statement (.andZpInd z) :=
  statement_of_opcode 0x32 rfl rfl
theorem bitZpX (z : Byte) : Statement (.bitZpX z) :=
  statement_of_opcode 0x34 rfl rfl
theorem andZpX (z : Byte) : Statement (.andZpX z) :=
  statement_of_opcode 0x35 rfl rfl
theorem rolZpX (z : Byte) : Statement (.rolZpX z) :=
  statement_of_opcode 0x36 rfl rfl
theorem rmb3 (z : Byte) : Statement (.rmb3 z) :=
  statement_of_opcode 0x37 rfl rfl
theorem sec : Statement (.sec) :=
  statement_of_opcode 0x38 rfl rfl
theorem andAbsY (a : Word) : Statement (.andAbsY a) :=
  statement_of_opcode 0x39 rfl rfl
theorem decAcc : Statement (.decAcc) :=
  statement_of_opcode 0x3A rfl rfl
theorem bitAbsX (a : Word) : Statement (.bitAbsX a) :=
  statement_of_opcode 0x3C rfl rfl
theorem andAbsX (a : Word) : Statement (.andAbsX a) :=
  statement_of_opcode 0x3D rfl rfl
theorem rolAbsX (a : Word) : Statement (.rolAbsX a) :=
  statement_of_opcode 0x3E rfl rfl
theorem bbr3 (z : Byte) (d : Byte) : Statement (.bbr3 z d) :=
  statement_of_opcode 0x3F rfl rfl
theorem rti : Statement (.rti) :=
  statement_of_opcode 0x40 rfl rfl
theorem eorZpIndX (z : Byte) : Statement (.eorZpIndX z) :=
  statement_of_opcode 0x41 rfl rfl
theorem eorZp (z : Byte) : Statement (.eorZp z) :=
  statement_of_opcode 0x45 rfl rfl
theorem lsrZp (z : Byte) : Statement (.lsrZp z) :=
  statement_of_opcode 0x46 rfl rfl
theorem rmb4 (z : Byte) : Statement (.rmb4 z) :=
  statement_of_opcode 0x47 rfl rfl
theorem pha : Statement (.pha) :=
  statement_of_opcode 0x48 rfl rfl
theorem eorImm (m : Byte) : Statement (.eorImm m) :=
  statement_of_opcode 0x49 rfl rfl
theorem lsrAcc : Statement (.lsrAcc) :=
  statement_of_opcode 0x4A rfl rfl
theorem jmpAbs (a : Word) : Statement (.jmpAbs a) :=
  statement_of_opcode 0x4C rfl rfl
theorem eorAbs (a : Word) : Statement (.eorAbs a) :=
  statement_of_opcode 0x4D rfl rfl
theorem lsrAbs (a : Word) : Statement (.lsrAbs a) :=
  statement_of_opcode 0x4E rfl rfl
theorem bbr4 (z : Byte) (d : Byte) : Statement (.bbr4 z d) :=
  statement_of_opcode 0x4F rfl rfl
theorem bvc (d : Byte) : Statement (.bvc d) :=
  statement_of_opcode 0x50 rfl rfl
theorem eorZpIndY (z : Byte) : Statement (.eorZpIndY z) :=
  statement_of_opcode 0x51 rfl rfl
theorem eorZpInd (z : Byte) : Statement (.eorZpInd z) :=
  statement_of_opcode 0x52 rfl rfl
theorem eorZpX (z : Byte) : Statement (.eorZpX z) :=
  statement_of_opcode 0x55 rfl rfl
theorem lsrZpX (z : Byte) : Statement (.lsrZpX z) :=
  statement_of_opcode 0x56 rfl rfl
theorem rmb5 (z : Byte) : Statement (.rmb5 z) :=
  statement_of_opcode 0x57 rfl rfl
theorem cli : Statement (.cli) :=
  statement_of_opcode 0x58 rfl rfl
theorem eorAbsY (a : Word) : Statement (.eorAbsY a) :=
  statement_of_opcode 0x59 rfl rfl
theorem phy : Statement (.phy) :=
  statement_of_opcode 0x5A rfl rfl
theorem eorAbsX (a : Word) : Statement (.eorAbsX a) :=
  statement_of_opcode 0x5D rfl rfl
theorem lsrAbsX (a : Word) : Statement (.lsrAbsX a) :=
  statement_of_opcode 0x5E rfl rfl
theorem bbr5 (z : Byte) (d : Byte) : Statement (.bbr5 z d) :=
  statement_of_opcode 0x5F rfl rfl
theorem rts : Statement (.rts) :=
  statement_of_opcode 0x60 rfl rfl
theorem adcZpIndX (z : Byte) : Statement (.adcZpIndX z) :=
  statement_of_opcode 0x61 rfl rfl
theorem stzZp (z : Byte) : Statement (.stzZp z) :=
  statement_of_opcode 0x64 rfl rfl
theorem adcZp (z : Byte) : Statement (.adcZp z) :=
  statement_of_opcode 0x65 rfl rfl
theorem rorZp (z : Byte) : Statement (.rorZp z) :=
  statement_of_opcode 0x66 rfl rfl
theorem rmb6 (z : Byte) : Statement (.rmb6 z) :=
  statement_of_opcode 0x67 rfl rfl
theorem pla : Statement (.pla) :=
  statement_of_opcode 0x68 rfl rfl
theorem adcImm (m : Byte) : Statement (.adcImm m) :=
  statement_of_opcode 0x69 rfl rfl
theorem rorAcc : Statement (.rorAcc) :=
  statement_of_opcode 0x6A rfl rfl
theorem jmpAbsInd (a : Word) : Statement (.jmpAbsInd a) :=
  statement_of_opcode 0x6C rfl rfl
theorem adcAbs (a : Word) : Statement (.adcAbs a) :=
  statement_of_opcode 0x6D rfl rfl
theorem rorAbs (a : Word) : Statement (.rorAbs a) :=
  statement_of_opcode 0x6E rfl rfl
theorem bbr6 (z : Byte) (d : Byte) : Statement (.bbr6 z d) :=
  statement_of_opcode 0x6F rfl rfl
theorem bvs (d : Byte) : Statement (.bvs d) :=
  statement_of_opcode 0x70 rfl rfl
theorem adcZpIndY (z : Byte) : Statement (.adcZpIndY z) :=
  statement_of_opcode 0x71 rfl rfl
theorem adcZpInd (z : Byte) : Statement (.adcZpInd z) :=
  statement_of_opcode 0x72 rfl rfl
theorem stzZpX (z : Byte) : Statement (.stzZpX z) :=
  statement_of_opcode 0x74 rfl rfl
theorem adcZpX (z : Byte) : Statement (.adcZpX z) :=
  statement_of_opcode 0x75 rfl rfl
theorem rorZpX (z : Byte) : Statement (.rorZpX z) :=
  statement_of_opcode 0x76 rfl rfl
theorem rmb7 (z : Byte) : Statement (.rmb7 z) :=
  statement_of_opcode 0x77 rfl rfl
theorem sei : Statement (.sei) :=
  statement_of_opcode 0x78 rfl rfl
theorem adcAbsY (a : Word) : Statement (.adcAbsY a) :=
  statement_of_opcode 0x79 rfl rfl
theorem ply : Statement (.ply) :=
  statement_of_opcode 0x7A rfl rfl
theorem jmpAbsIndX (a : Word) : Statement (.jmpAbsIndX a) :=
  statement_of_opcode 0x7C rfl rfl
theorem adcAbsX (a : Word) : Statement (.adcAbsX a) :=
  statement_of_opcode 0x7D rfl rfl
theorem rorAbsX (a : Word) : Statement (.rorAbsX a) :=
  statement_of_opcode 0x7E rfl rfl
theorem bbr7 (z : Byte) (d : Byte) : Statement (.bbr7 z d) :=
  statement_of_opcode 0x7F rfl rfl
theorem bra (d : Byte) : Statement (.bra d) :=
  statement_of_opcode 0x80 rfl rfl
theorem staZpIndX (z : Byte) : Statement (.staZpIndX z) :=
  statement_of_opcode 0x81 rfl rfl
theorem styZp (z : Byte) : Statement (.styZp z) :=
  statement_of_opcode 0x84 rfl rfl
theorem staZp (z : Byte) : Statement (.staZp z) :=
  statement_of_opcode 0x85 rfl rfl
theorem stxZp (z : Byte) : Statement (.stxZp z) :=
  statement_of_opcode 0x86 rfl rfl
theorem smb0 (z : Byte) : Statement (.smb0 z) :=
  statement_of_opcode 0x87 rfl rfl
theorem dey : Statement (.dey) :=
  statement_of_opcode 0x88 rfl rfl
theorem bitImm (m : Byte) : Statement (.bitImm m) :=
  statement_of_opcode 0x89 rfl rfl
theorem txa : Statement (.txa) :=
  statement_of_opcode 0x8A rfl rfl
theorem styAbs (a : Word) : Statement (.styAbs a) :=
  statement_of_opcode 0x8C rfl rfl
theorem staAbs (a : Word) : Statement (.staAbs a) :=
  statement_of_opcode 0x8D rfl rfl
theorem stxAbs (a : Word) : Statement (.stxAbs a) :=
  statement_of_opcode 0x8E rfl rfl
theorem bbs0 (z : Byte) (d : Byte) : Statement (.bbs0 z d) :=
  statement_of_opcode 0x8F rfl rfl
theorem bcc (d : Byte) : Statement (.bcc d) :=
  statement_of_opcode 0x90 rfl rfl
theorem staZpIndY (z : Byte) : Statement (.staZpIndY z) :=
  statement_of_opcode 0x91 rfl rfl
theorem staZpInd (z : Byte) : Statement (.staZpInd z) :=
  statement_of_opcode 0x92 rfl rfl
theorem styZpX (z : Byte) : Statement (.styZpX z) :=
  statement_of_opcode 0x94 rfl rfl
theorem staZpX (z : Byte) : Statement (.staZpX z) :=
  statement_of_opcode 0x95 rfl rfl
theorem stxZpY (z : Byte) : Statement (.stxZpY z) :=
  statement_of_opcode 0x96 rfl rfl
theorem smb1 (z : Byte) : Statement (.smb1 z) :=
  statement_of_opcode 0x97 rfl rfl
theorem tya : Statement (.tya) :=
  statement_of_opcode 0x98 rfl rfl
theorem staAbsY (a : Word) : Statement (.staAbsY a) :=
  statement_of_opcode 0x99 rfl rfl
theorem txs : Statement (.txs) :=
  statement_of_opcode 0x9A rfl rfl
theorem stzAbs (a : Word) : Statement (.stzAbs a) :=
  statement_of_opcode 0x9C rfl rfl
theorem staAbsX (a : Word) : Statement (.staAbsX a) :=
  statement_of_opcode 0x9D rfl rfl
theorem stzAbsX (a : Word) : Statement (.stzAbsX a) :=
  statement_of_opcode 0x9E rfl rfl
theorem bbs1 (z : Byte) (d : Byte) : Statement (.bbs1 z d) :=
  statement_of_opcode 0x9F rfl rfl
theorem ldyImm (m : Byte) : Statement (.ldyImm m) :=
  statement_of_opcode 0xA0 rfl rfl
theorem ldaZpIndX (z : Byte) : Statement (.ldaZpIndX z) :=
  statement_of_opcode 0xA1 rfl rfl
theorem ldxImm (m : Byte) : Statement (.ldxImm m) :=
  statement_of_opcode 0xA2 rfl rfl
theorem ldyZp (z : Byte) : Statement (.ldyZp z) :=
  statement_of_opcode 0xA4 rfl rfl
theorem ldaZp (z : Byte) : Statement (.ldaZp z) :=
  statement_of_opcode 0xA5 rfl rfl
theorem ldxZp (z : Byte) : Statement (.ldxZp z) :=
  statement_of_opcode 0xA6 rfl rfl
theorem smb2 (z : Byte) : Statement (.smb2 z) :=
  statement_of_opcode 0xA7 rfl rfl
theorem tay : Statement (.tay) :=
  statement_of_opcode 0xA8 rfl rfl
theorem ldaImm (m : Byte) : Statement (.ldaImm m) :=
  statement_of_opcode 0xA9 rfl rfl
theorem tax : Statement (.tax) :=
  statement_of_opcode 0xAA rfl rfl
theorem ldyAbs (a : Word) : Statement (.ldyAbs a) :=
  statement_of_opcode 0xAC rfl rfl
theorem ldaAbs (a : Word) : Statement (.ldaAbs a) :=
  statement_of_opcode 0xAD rfl rfl
theorem ldxAbs (a : Word) : Statement (.ldxAbs a) :=
  statement_of_opcode 0xAE rfl rfl
theorem bbs2 (z : Byte) (d : Byte) : Statement (.bbs2 z d) :=
  statement_of_opcode 0xAF rfl rfl
theorem bcs (d : Byte) : Statement (.bcs d) :=
  statement_of_opcode 0xB0 rfl rfl
theorem ldaZpIndY (z : Byte) : Statement (.ldaZpIndY z) :=
  statement_of_opcode 0xB1 rfl rfl
theorem ldaZpInd (z : Byte) : Statement (.ldaZpInd z) :=
  statement_of_opcode 0xB2 rfl rfl
theorem ldyZpX (z : Byte) : Statement (.ldyZpX z) :=
  statement_of_opcode 0xB4 rfl rfl
theorem ldaZpX (z : Byte) : Statement (.ldaZpX z) :=
  statement_of_opcode 0xB5 rfl rfl
theorem ldxZpY (z : Byte) : Statement (.ldxZpY z) :=
  statement_of_opcode 0xB6 rfl rfl
theorem smb3 (z : Byte) : Statement (.smb3 z) :=
  statement_of_opcode 0xB7 rfl rfl
theorem clv : Statement (.clv) :=
  statement_of_opcode 0xB8 rfl rfl
theorem ldaAbsY (a : Word) : Statement (.ldaAbsY a) :=
  statement_of_opcode 0xB9 rfl rfl
theorem tsx : Statement (.tsx) :=
  statement_of_opcode 0xBA rfl rfl
theorem ldyAbsX (a : Word) : Statement (.ldyAbsX a) :=
  statement_of_opcode 0xBC rfl rfl
theorem ldaAbsX (a : Word) : Statement (.ldaAbsX a) :=
  statement_of_opcode 0xBD rfl rfl
theorem ldxAbsY (a : Word) : Statement (.ldxAbsY a) :=
  statement_of_opcode 0xBE rfl rfl
theorem bbs3 (z : Byte) (d : Byte) : Statement (.bbs3 z d) :=
  statement_of_opcode 0xBF rfl rfl
theorem cpyImm (m : Byte) : Statement (.cpyImm m) :=
  statement_of_opcode 0xC0 rfl rfl
theorem cmpZpIndX (z : Byte) : Statement (.cmpZpIndX z) :=
  statement_of_opcode 0xC1 rfl rfl
theorem cpyZp (z : Byte) : Statement (.cpyZp z) :=
  statement_of_opcode 0xC4 rfl rfl
theorem cmpZp (z : Byte) : Statement (.cmpZp z) :=
  statement_of_opcode 0xC5 rfl rfl
theorem decZp (z : Byte) : Statement (.decZp z) :=
  statement_of_opcode 0xC6 rfl rfl
theorem smb4 (z : Byte) : Statement (.smb4 z) :=
  statement_of_opcode 0xC7 rfl rfl
theorem iny : Statement (.iny) :=
  statement_of_opcode 0xC8 rfl rfl
theorem cmpImm (m : Byte) : Statement (.cmpImm m) :=
  statement_of_opcode 0xC9 rfl rfl
theorem dex : Statement (.dex) :=
  statement_of_opcode 0xCA rfl rfl
theorem wai : Statement (.wai) :=
  statement_of_opcode 0xCB rfl rfl
theorem cpyAbs (a : Word) : Statement (.cpyAbs a) :=
  statement_of_opcode 0xCC rfl rfl
theorem cmpAbs (a : Word) : Statement (.cmpAbs a) :=
  statement_of_opcode 0xCD rfl rfl
theorem decAbs (a : Word) : Statement (.decAbs a) :=
  statement_of_opcode 0xCE rfl rfl
theorem bbs4 (z : Byte) (d : Byte) : Statement (.bbs4 z d) :=
  statement_of_opcode 0xCF rfl rfl
theorem bne (d : Byte) : Statement (.bne d) :=
  statement_of_opcode 0xD0 rfl rfl
theorem cmpZpIndY (z : Byte) : Statement (.cmpZpIndY z) :=
  statement_of_opcode 0xD1 rfl rfl
theorem cmpZpInd (z : Byte) : Statement (.cmpZpInd z) :=
  statement_of_opcode 0xD2 rfl rfl
theorem cmpZpX (z : Byte) : Statement (.cmpZpX z) :=
  statement_of_opcode 0xD5 rfl rfl
theorem decZpX (z : Byte) : Statement (.decZpX z) :=
  statement_of_opcode 0xD6 rfl rfl
theorem smb5 (z : Byte) : Statement (.smb5 z) :=
  statement_of_opcode 0xD7 rfl rfl
theorem cld : Statement (.cld) :=
  statement_of_opcode 0xD8 rfl rfl
theorem cmpAbsY (a : Word) : Statement (.cmpAbsY a) :=
  statement_of_opcode 0xD9 rfl rfl
theorem phx : Statement (.phx) :=
  statement_of_opcode 0xDA rfl rfl
theorem stp : Statement (.stp) :=
  statement_of_opcode 0xDB rfl rfl
theorem cmpAbsX (a : Word) : Statement (.cmpAbsX a) :=
  statement_of_opcode 0xDD rfl rfl
theorem decAbsX (a : Word) : Statement (.decAbsX a) :=
  statement_of_opcode 0xDE rfl rfl
theorem bbs5 (z : Byte) (d : Byte) : Statement (.bbs5 z d) :=
  statement_of_opcode 0xDF rfl rfl
theorem cpxImm (m : Byte) : Statement (.cpxImm m) :=
  statement_of_opcode 0xE0 rfl rfl
theorem sbcZpIndX (z : Byte) : Statement (.sbcZpIndX z) :=
  statement_of_opcode 0xE1 rfl rfl
theorem cpxZp (z : Byte) : Statement (.cpxZp z) :=
  statement_of_opcode 0xE4 rfl rfl
theorem sbcZp (z : Byte) : Statement (.sbcZp z) :=
  statement_of_opcode 0xE5 rfl rfl
theorem incZp (z : Byte) : Statement (.incZp z) :=
  statement_of_opcode 0xE6 rfl rfl
theorem smb6 (z : Byte) : Statement (.smb6 z) :=
  statement_of_opcode 0xE7 rfl rfl
theorem inx : Statement (.inx) :=
  statement_of_opcode 0xE8 rfl rfl
theorem sbcImm (m : Byte) : Statement (.sbcImm m) :=
  statement_of_opcode 0xE9 rfl rfl
theorem nop : Statement (.nop) :=
  statement_of_opcode 0xEA rfl rfl
theorem cpxAbs (a : Word) : Statement (.cpxAbs a) :=
  statement_of_opcode 0xEC rfl rfl
theorem sbcAbs (a : Word) : Statement (.sbcAbs a) :=
  statement_of_opcode 0xED rfl rfl
theorem incAbs (a : Word) : Statement (.incAbs a) :=
  statement_of_opcode 0xEE rfl rfl
theorem bbs6 (z : Byte) (d : Byte) : Statement (.bbs6 z d) :=
  statement_of_opcode 0xEF rfl rfl
theorem beq (d : Byte) : Statement (.beq d) :=
  statement_of_opcode 0xF0 rfl rfl
theorem sbcZpIndY (z : Byte) : Statement (.sbcZpIndY z) :=
  statement_of_opcode 0xF1 rfl rfl
theorem sbcZpInd (z : Byte) : Statement (.sbcZpInd z) :=
  statement_of_opcode 0xF2 rfl rfl
theorem sbcZpX (z : Byte) : Statement (.sbcZpX z) :=
  statement_of_opcode 0xF5 rfl rfl
theorem incZpX (z : Byte) : Statement (.incZpX z) :=
  statement_of_opcode 0xF6 rfl rfl
theorem smb7 (z : Byte) : Statement (.smb7 z) :=
  statement_of_opcode 0xF7 rfl rfl
theorem sed : Statement (.sed) :=
  statement_of_opcode 0xF8 rfl rfl
theorem sbcAbsY (a : Word) : Statement (.sbcAbsY a) :=
  statement_of_opcode 0xF9 rfl rfl
theorem plx : Statement (.plx) :=
  statement_of_opcode 0xFA rfl rfl
theorem sbcAbsX (a : Word) : Statement (.sbcAbsX a) :=
  statement_of_opcode 0xFD rfl rfl
theorem incAbsX (a : Word) : Statement (.incAbsX a) :=
  statement_of_opcode 0xFE rfl rfl
theorem bbs7 (z : Byte) (d : Byte) : Statement (.bbs7 z d) :=
  statement_of_opcode 0xFF rfl rfl

end Sys2Proof.Laws.EncodingFormat
end

