-- ==== Sys2Proof/Laws/Refused.lean ====
section
/-! SUPPORT. What a refused Write leaves (spec/60_exceptions.md R500, R503): each operation that writes, where a read-only
device answers its address, ends in WriteProtect with what it had done before. -/

namespace Sys2Proof.Machine

/-- A Write refused by the one selected device changes no device. -/
theorem writeDevices_of_refused (cfg : Config) {sel : List ChipSelect} (a : Word) (v : Byte) {ds : List Device}
    (one : (ds.filter fun d => d.selected sel).length ≤ 1) (h : writableBy sel ds = false) :
    writeDevices cfg sel a v ds = ds := by
  induction ds with
  | nil => rfl
  | cons d rest ih =>
    rw [List.filter_cons] at one
    unfold writeDevices
    split at one
    · rename_i hd
      rw [if_pos hd, if_neg]
      intro hc
      have none : rest.filter (fun d => d.selected sel) = [] := by simpa using one
      have : writableBy sel rest = true := by
        simp only [writableBy, List.all_eq_true, Bool.or_eq_true, Bool.not_eq_true']
        intro e he
        rw [List.filter_eq_nil_iff] at none
        exact Or.inl (by simpa using none e he)
      simp [writableBy, hc] at h this
      grind
    · rename_i hd
      rw [if_neg hd, ih one]
      simpa [writableBy, hd] using h

/-- The selected devices, as far as attributes tell. -/
theorem State.SameBus.selected_length {s t : State} (h : s.SameBus t) (sel : List ChipSelect) :
    (t.devices.filter fun d => d.selected sel).length = (s.devices.filter fun d => d.selected sel).length := by
  have by_attr : ∀ ds : List Device, (ds.filter fun d => d.selected sel).length =
      ((ds.map (·.attr)).filter fun a => (Device.blank a).selected sel).length := by
    intro ds; rw [List.filter_map, List.length_map]; rfl
  rw [by_attr, by_attr]
  exact congrArg (fun l => (l.filter fun a => (Device.blank a).selected sel).length) h.2

/-- So the state after a refused Write differs by its tick alone. -/
theorem State.stored_of_refused {a : Word} {st : State} (v : Byte)
    (one : (st.devices.filter fun d => d.selected (decodeAddress st.cfg.ranges a)).length ≤ 1)
    (h : st.writable a = false) : st.stored a v = st.tick := by
  unfold State.stored
  rw [writeDevices_of_refused st.cfg a v one h]
  rfl

theorem storeAt_of_refused {dst : MemOperand} (v : Byte) {st : State}
    (h : st.writable (effectiveAddress dst st).1 = false) :
    storeAt dst v st = .raised (.writeProtect (effectiveAddress dst st).1)
      ((effectiveAddress dst st).2.stored (effectiveAddress dst st).1 v) := by
  unfold storeAt
  rw [State.memWrite_of_not_writable v (by simpa using h), Flow.andThen_raised]

theorem performModify_of_refused {op : ModifyOp} {dst : MemOperand} {st : State}
    (h : st.writable (effectiveAddress dst st).1 = false) :
    performModify op dst st = .raised (.writeProtect (effectiveAddress dst st).1)
      ((beforeWrite op (readTarget dst st).m (readTarget dst st).st).stored (effectiveAddress dst st).1
        (modified op (readTarget dst st).m (readTarget dst st).st)) := by
  have hb := (readTarget_sameBus dst st).trans (beforeWrite_sameBus op (readTarget dst st).m (readTarget dst st).st)
  unfold performModify
  simp only
  rw [show (readTarget dst st).ea = (effectiveAddress dst st).1 from rfl,
    State.memWrite_of_not_writable _ ((hb.writable _).trans h), Flow.andThen_raised]

/-! ## The stack -/

theorem pushByte_of_refused {st : State} (v : Byte) (h : st.writable (stackAddr st.s) = false) :
    pushByte v st = .raised (.writeProtect (stackAddr st.s)) (st.stored (stackAddr st.s) v) := by
  unfold pushByte
  rw [State.push_of_not_writable v h, Flow.andThen_raised]

theorem State.pushWord_of_refused_first {st : State} (w : Word) (h : st.writable (stackAddr st.s) = false) :
    st.pushWord w = .raised (.writeProtect (stackAddr st.s)) (st.stored (stackAddr st.s) (hiByte w)) := by
  unfold State.pushWord
  rw [State.push_of_not_writable _ h, Flow.andThen_raised]

theorem State.pushWord_of_refused_second {st : State} (w : Word) (h1 : st.writable (stackAddr st.s) = true)
    (h2 : st.writable (stackAddr (st.s - 1)) = false) :
    st.pushWord w = .raised (.writeProtect (stackAddr (st.s - 1)))
      (((st.stored (stackAddr st.s) (hiByte w)).withS (st.s - 1)).stored (stackAddr (st.s - 1)) (loByte w)) := by
  unfold State.pushWord
  rw [State.push_of_writable _ h1, Flow.andThen_go]
  have same : st.SameBus ((st.stored (stackAddr st.s) (hiByte w)).withS (st.s - 1)) := st.stored_sameBus _ _
  exact State.push_of_not_writable _ ((same.writable _).trans h2)

/-! ## Taking an exception -/

theorem State.takeException_of_refused_first (e : Entry) {st : State} (h : st.writable (stackAddr st.s) = false) :
    st.takeException e = .raised (.writeProtect (stackAddr st.s))
      (st.stored (stackAddr st.s) (hiByte (e.returnAddress st))) := by
  unfold State.takeException
  rw [State.pushWord_of_refused_first _ h, Flow.andThen_raised]

theorem State.takeException_of_refused_second (e : Entry) {st : State} (h1 : st.writable (stackAddr st.s) = true)
    (h2 : st.writable (stackAddr (st.s - 1)) = false) :
    st.takeException e = .raised (.writeProtect (stackAddr (st.s - 1)))
      (((st.stored (stackAddr st.s) (hiByte (e.returnAddress st))).withS (st.s - 1)).stored (stackAddr (st.s - 1))
        (loByte (e.returnAddress st))) := by
  unfold State.takeException
  rw [State.pushWord_of_refused_second _ h1 h2, Flow.andThen_raised]

/-- The state in which the third push of an exception is made: both bytes of the return address are on the stack, and
BRK has set B. -/
def Entry.beforeStatus (e : Entry) (st : State) : State :=
  e.markBreak ((((st.stored (stackAddr st.s) (hiByte (e.returnAddress st))).withS (st.s - 1)).stored
    (stackAddr (st.s - 1)) (loByte (e.returnAddress st))).withS (st.s - 1 - 1))

theorem State.takeException_of_refused_third (e : Entry) {st : State} (h1 : st.writable (stackAddr st.s) = true)
    (h2 : st.writable (stackAddr (st.s - 1)) = true) (h3 : st.writable (stackAddr (st.s - 1 - 1)) = false) :
    st.takeException e = .raised (.writeProtect (stackAddr (st.s - 1 - 1)))
      ((e.beforeStatus st).stored (stackAddr (st.s - 1 - 1)) (e.statusCopy (e.beforeStatus st).p)) := by
  have hs : (e.beforeStatus st).s = st.s - 1 - 1 := by cases e <;> rfl
  have same : st.SameBus (e.beforeStatus st) := by
    have pushed : st.SameBus ((((st.stored (stackAddr st.s) (hiByte (e.returnAddress st))).withS (st.s - 1)).stored
        (stackAddr (st.s - 1)) (loByte (e.returnAddress st))).withS (st.s - 1 - 1)) := by
      refine State.SameBus.trans (t := (st.stored (stackAddr st.s) (hiByte (e.returnAddress st))).withS (st.s - 1)) ?_ ?_
      · exact st.stored_sameBus _ _
      · exact State.stored_sameBus _ (loByte (e.returnAddress st)) _
    cases e <;> exact pushed
  unfold State.takeException
  rw [State.pushWord_of_writable _ h1 h2, Flow.andThen_go]
  show ((e.beforeStatus st).push (e.statusCopy (e.beforeStatus st).p)).andThen _ = _
  rw [State.push_of_not_writable _ (by rw [hs]; exact (same.writable _).trans h3), Flow.andThen_raised, hs]

end Sys2Proof.Machine
end

