-- ==== Sys2Proof/Tests/Slice0.lean ====
section
/-! SUPPORT. Tests of the model: words written out from the opcode map, ill-formed terms that the checks refuse, one
instruction at a time against the worked examples of spec/, and a witness for the hypotheses of each statement. -/

namespace Sys2Proof.Tests

open Sys2Proof.Machine Sys2Proof.Spec

/-! ## Every constructor decodes from its word (the opcode map of R130, the encodings of spec/opcode_table.json) -/

/-- Row 0x. -/
theorem test_decode_row0 :
    decode true [0b00000000, 0x34] = .ok (.brk 0x34) [] ∧
    decode true [0b00000001, 0x34] = .ok (.oraZpIndX 0x34) [] ∧
    decode true [0b00000100, 0x34] = .ok (.tsbZp 0x34) [] ∧
    decode true [0b00000101, 0x34] = .ok (.oraZp 0x34) [] ∧
    decode true [0b00000110, 0x34] = .ok (.aslZp 0x34) [] ∧
    decode true [0b00000111, 0x34] = .ok (.rmb0 0x34) [] ∧
    decode true [0b00001000, 0x34] = .ok .php [0x34] ∧
    decode true [0b00001001, 0x34] = .ok (.oraImm 0x34) [] ∧
    decode true [0b00001010, 0x34] = .ok .aslAcc [0x34] ∧
    decode true [0b00001100, 0x34, 0x12] = .ok (.tsbAbs 0x1234) [] ∧
    decode true [0b00001101, 0x34, 0x12] = .ok (.oraAbs 0x1234) [] ∧
    decode true [0b00001110, 0x34, 0x12] = .ok (.aslAbs 0x1234) [] ∧
    decode true [0b00001111, 0x34, 0x12] = .ok (.bbr0 0x34 0x12) [] := by decide

/-- Row 1x. -/
theorem test_decode_row1 :
    decode true [0b00010000, 0x34] = .ok (.bpl 0x34) [] ∧
    decode true [0b00010001, 0x34] = .ok (.oraZpIndY 0x34) [] ∧
    decode true [0b00010010, 0x34] = .ok (.oraZpInd 0x34) [] ∧
    decode true [0b00010100, 0x34] = .ok (.trbZp 0x34) [] ∧
    decode true [0b00010101, 0x34] = .ok (.oraZpX 0x34) [] ∧
    decode true [0b00010110, 0x34] = .ok (.aslZpX 0x34) [] ∧
    decode true [0b00010111, 0x34] = .ok (.rmb1 0x34) [] ∧
    decode true [0b00011000, 0x34] = .ok .clc [0x34] ∧
    decode true [0b00011001, 0x34, 0x12] = .ok (.oraAbsY 0x1234) [] ∧
    decode true [0b00011010, 0x34] = .ok .incAcc [0x34] ∧
    decode true [0b00011100, 0x34, 0x12] = .ok (.trbAbs 0x1234) [] ∧
    decode true [0b00011101, 0x34, 0x12] = .ok (.oraAbsX 0x1234) [] ∧
    decode true [0b00011110, 0x34, 0x12] = .ok (.aslAbsX 0x1234) [] ∧
    decode true [0b00011111, 0x34, 0x12] = .ok (.bbr1 0x34 0x12) [] := by decide

/-- Row 2x. -/
theorem test_decode_row2 :
    decode true [0b00100000, 0x34, 0x12] = .ok (.jsr 0x1234) [] ∧
    decode true [0b00100001, 0x34] = .ok (.andZpIndX 0x34) [] ∧
    decode true [0b00100100, 0x34] = .ok (.bitZp 0x34) [] ∧
    decode true [0b00100101, 0x34] = .ok (.andZp 0x34) [] ∧
    decode true [0b00100110, 0x34] = .ok (.rolZp 0x34) [] ∧
    decode true [0b00100111, 0x34] = .ok (.rmb2 0x34) [] ∧
    decode true [0b00101000, 0x34] = .ok .plp [0x34] ∧
    decode true [0b00101001, 0x34] = .ok (.andImm 0x34) [] ∧
    decode true [0b00101010, 0x34] = .ok .rolAcc [0x34] ∧
    decode true [0b00101100, 0x34, 0x12] = .ok (.bitAbs 0x1234) [] ∧
    decode true [0b00101101, 0x34, 0x12] = .ok (.andAbs 0x1234) [] ∧
    decode true [0b00101110, 0x34, 0x12] = .ok (.rolAbs 0x1234) [] ∧
    decode true [0b00101111, 0x34, 0x12] = .ok (.bbr2 0x34 0x12) [] := by decide

/-- Row 3x. -/
theorem test_decode_row3 :
    decode true [0b00110000, 0x34] = .ok (.bmi 0x34) [] ∧
    decode true [0b00110001, 0x34] = .ok (.andZpIndY 0x34) [] ∧
    decode true [0b00110010, 0x34] = .ok (.andZpInd 0x34) [] ∧
    decode true [0b00110100, 0x34] = .ok (.bitZpX 0x34) [] ∧
    decode true [0b00110101, 0x34] = .ok (.andZpX 0x34) [] ∧
    decode true [0b00110110, 0x34] = .ok (.rolZpX 0x34) [] ∧
    decode true [0b00110111, 0x34] = .ok (.rmb3 0x34) [] ∧
    decode true [0b00111000, 0x34] = .ok .sec [0x34] ∧
    decode true [0b00111001, 0x34, 0x12] = .ok (.andAbsY 0x1234) [] ∧
    decode true [0b00111010, 0x34] = .ok .decAcc [0x34] ∧
    decode true [0b00111100, 0x34, 0x12] = .ok (.bitAbsX 0x1234) [] ∧
    decode true [0b00111101, 0x34, 0x12] = .ok (.andAbsX 0x1234) [] ∧
    decode true [0b00111110, 0x34, 0x12] = .ok (.rolAbsX 0x1234) [] ∧
    decode true [0b00111111, 0x34, 0x12] = .ok (.bbr3 0x34 0x12) [] := by decide

/-- Row 4x. -/
theorem test_decode_row4 :
    decode true [0b01000000, 0x34] = .ok .rti [0x34] ∧
    decode true [0b01000001, 0x34] = .ok (.eorZpIndX 0x34) [] ∧
    decode true [0b01000101, 0x34] = .ok (.eorZp 0x34) [] ∧
    decode true [0b01000110, 0x34] = .ok (.lsrZp 0x34) [] ∧
    decode true [0b01000111, 0x34] = .ok (.rmb4 0x34) [] ∧
    decode true [0b01001000, 0x34] = .ok .pha [0x34] ∧
    decode true [0b01001001, 0x34] = .ok (.eorImm 0x34) [] ∧
    decode true [0b01001010, 0x34] = .ok .lsrAcc [0x34] ∧
    decode true [0b01001100, 0x34, 0x12] = .ok (.jmpAbs 0x1234) [] ∧
    decode true [0b01001101, 0x34, 0x12] = .ok (.eorAbs 0x1234) [] ∧
    decode true [0b01001110, 0x34, 0x12] = .ok (.lsrAbs 0x1234) [] ∧
    decode true [0b01001111, 0x34, 0x12] = .ok (.bbr4 0x34 0x12) [] := by decide

/-- Row 5x. -/
theorem test_decode_row5 :
    decode true [0b01010000, 0x34] = .ok (.bvc 0x34) [] ∧
    decode true [0b01010001, 0x34] = .ok (.eorZpIndY 0x34) [] ∧
    decode true [0b01010010, 0x34] = .ok (.eorZpInd 0x34) [] ∧
    decode true [0b01010101, 0x34] = .ok (.eorZpX 0x34) [] ∧
    decode true [0b01010110, 0x34] = .ok (.lsrZpX 0x34) [] ∧
    decode true [0b01010111, 0x34] = .ok (.rmb5 0x34) [] ∧
    decode true [0b01011000, 0x34] = .ok .cli [0x34] ∧
    decode true [0b01011001, 0x34, 0x12] = .ok (.eorAbsY 0x1234) [] ∧
    decode true [0b01011010, 0x34] = .ok .phy [0x34] ∧
    decode true [0b01011101, 0x34, 0x12] = .ok (.eorAbsX 0x1234) [] ∧
    decode true [0b01011110, 0x34, 0x12] = .ok (.lsrAbsX 0x1234) [] ∧
    decode true [0b01011111, 0x34, 0x12] = .ok (.bbr5 0x34 0x12) [] := by decide

/-- Row 6x. -/
theorem test_decode_row6 :
    decode true [0b01100000, 0x34] = .ok .rts [0x34] ∧
    decode true [0b01100001, 0x34] = .ok (.adcZpIndX 0x34) [] ∧
    decode true [0b01100100, 0x34] = .ok (.stzZp 0x34) [] ∧
    decode true [0b01100101, 0x34] = .ok (.adcZp 0x34) [] ∧
    decode true [0b01100110, 0x34] = .ok (.rorZp 0x34) [] ∧
    decode true [0b01100111, 0x34] = .ok (.rmb6 0x34) [] ∧
    decode true [0b01101000, 0x34] = .ok .pla [0x34] ∧
    decode true [0b01101001, 0x34] = .ok (.adcImm 0x34) [] ∧
    decode true [0b01101010, 0x34] = .ok .rorAcc [0x34] ∧
    decode true [0b01101100, 0x34, 0x12] = .ok (.jmpAbsInd 0x1234) [] ∧
    decode true [0b01101101, 0x34, 0x12] = .ok (.adcAbs 0x1234) [] ∧
    decode true [0b01101110, 0x34, 0x12] = .ok (.rorAbs 0x1234) [] ∧
    decode true [0b01101111, 0x34, 0x12] = .ok (.bbr6 0x34 0x12) [] := by decide

/-- Row 7x. -/
theorem test_decode_row7 :
    decode true [0b01110000, 0x34] = .ok (.bvs 0x34) [] ∧
    decode true [0b01110001, 0x34] = .ok (.adcZpIndY 0x34) [] ∧
    decode true [0b01110010, 0x34] = .ok (.adcZpInd 0x34) [] ∧
    decode true [0b01110100, 0x34] = .ok (.stzZpX 0x34) [] ∧
    decode true [0b01110101, 0x34] = .ok (.adcZpX 0x34) [] ∧
    decode true [0b01110110, 0x34] = .ok (.rorZpX 0x34) [] ∧
    decode true [0b01110111, 0x34] = .ok (.rmb7 0x34) [] ∧
    decode true [0b01111000, 0x34] = .ok .sei [0x34] ∧
    decode true [0b01111001, 0x34, 0x12] = .ok (.adcAbsY 0x1234) [] ∧
    decode true [0b01111010, 0x34] = .ok .ply [0x34] ∧
    decode true [0b01111100, 0x34, 0x12] = .ok (.jmpAbsIndX 0x1234) [] ∧
    decode true [0b01111101, 0x34, 0x12] = .ok (.adcAbsX 0x1234) [] ∧
    decode true [0b01111110, 0x34, 0x12] = .ok (.rorAbsX 0x1234) [] ∧
    decode true [0b01111111, 0x34, 0x12] = .ok (.bbr7 0x34 0x12) [] := by decide

/-- Row 8x. -/
theorem test_decode_row8 :
    decode true [0b10000000, 0x34] = .ok (.bra 0x34) [] ∧
    decode true [0b10000001, 0x34] = .ok (.staZpIndX 0x34) [] ∧
    decode true [0b10000100, 0x34] = .ok (.styZp 0x34) [] ∧
    decode true [0b10000101, 0x34] = .ok (.staZp 0x34) [] ∧
    decode true [0b10000110, 0x34] = .ok (.stxZp 0x34) [] ∧
    decode true [0b10000111, 0x34] = .ok (.smb0 0x34) [] ∧
    decode true [0b10001000, 0x34] = .ok .dey [0x34] ∧
    decode true [0b10001001, 0x34] = .ok (.bitImm 0x34) [] ∧
    decode true [0b10001010, 0x34] = .ok .txa [0x34] ∧
    decode true [0b10001100, 0x34, 0x12] = .ok (.styAbs 0x1234) [] ∧
    decode true [0b10001101, 0x34, 0x12] = .ok (.staAbs 0x1234) [] ∧
    decode true [0b10001110, 0x34, 0x12] = .ok (.stxAbs 0x1234) [] ∧
    decode true [0b10001111, 0x34, 0x12] = .ok (.bbs0 0x34 0x12) [] := by decide

/-- Row 9x. -/
theorem test_decode_row9 :
    decode true [0b10010000, 0x34] = .ok (.bcc 0x34) [] ∧
    decode true [0b10010001, 0x34] = .ok (.staZpIndY 0x34) [] ∧
    decode true [0b10010010, 0x34] = .ok (.staZpInd 0x34) [] ∧
    decode true [0b10010100, 0x34] = .ok (.styZpX 0x34) [] ∧
    decode true [0b10010101, 0x34] = .ok (.staZpX 0x34) [] ∧
    decode true [0b10010110, 0x34] = .ok (.stxZpY 0x34) [] ∧
    decode true [0b10010111, 0x34] = .ok (.smb1 0x34) [] ∧
    decode true [0b10011000, 0x34] = .ok .tya [0x34] ∧
    decode true [0b10011001, 0x34, 0x12] = .ok (.staAbsY 0x1234) [] ∧
    decode true [0b10011010, 0x34] = .ok .txs [0x34] ∧
    decode true [0b10011100, 0x34, 0x12] = .ok (.stzAbs 0x1234) [] ∧
    decode true [0b10011101, 0x34, 0x12] = .ok (.staAbsX 0x1234) [] ∧
    decode true [0b10011110, 0x34, 0x12] = .ok (.stzAbsX 0x1234) [] ∧
    decode true [0b10011111, 0x34, 0x12] = .ok (.bbs1 0x34 0x12) [] := by decide

/-- Row Ax. -/
theorem test_decode_rowA :
    decode true [0b10100000, 0x34] = .ok (.ldyImm 0x34) [] ∧
    decode true [0b10100001, 0x34] = .ok (.ldaZpIndX 0x34) [] ∧
    decode true [0b10100010, 0x34] = .ok (.ldxImm 0x34) [] ∧
    decode true [0b10100100, 0x34] = .ok (.ldyZp 0x34) [] ∧
    decode true [0b10100101, 0x34] = .ok (.ldaZp 0x34) [] ∧
    decode true [0b10100110, 0x34] = .ok (.ldxZp 0x34) [] ∧
    decode true [0b10100111, 0x34] = .ok (.smb2 0x34) [] ∧
    decode true [0b10101000, 0x34] = .ok .tay [0x34] ∧
    decode true [0b10101001, 0x34] = .ok (.ldaImm 0x34) [] ∧
    decode true [0b10101010, 0x34] = .ok .tax [0x34] ∧
    decode true [0b10101100, 0x34, 0x12] = .ok (.ldyAbs 0x1234) [] ∧
    decode true [0b10101101, 0x34, 0x12] = .ok (.ldaAbs 0x1234) [] ∧
    decode true [0b10101110, 0x34, 0x12] = .ok (.ldxAbs 0x1234) [] ∧
    decode true [0b10101111, 0x34, 0x12] = .ok (.bbs2 0x34 0x12) [] := by decide

/-- Row Bx. -/
theorem test_decode_rowB :
    decode true [0b10110000, 0x34] = .ok (.bcs 0x34) [] ∧
    decode true [0b10110001, 0x34] = .ok (.ldaZpIndY 0x34) [] ∧
    decode true [0b10110010, 0x34] = .ok (.ldaZpInd 0x34) [] ∧
    decode true [0b10110100, 0x34] = .ok (.ldyZpX 0x34) [] ∧
    decode true [0b10110101, 0x34] = .ok (.ldaZpX 0x34) [] ∧
    decode true [0b10110110, 0x34] = .ok (.ldxZpY 0x34) [] ∧
    decode true [0b10110111, 0x34] = .ok (.smb3 0x34) [] ∧
    decode true [0b10111000, 0x34] = .ok .clv [0x34] ∧
    decode true [0b10111001, 0x34, 0x12] = .ok (.ldaAbsY 0x1234) [] ∧
    decode true [0b10111010, 0x34] = .ok .tsx [0x34] ∧
    decode true [0b10111100, 0x34, 0x12] = .ok (.ldyAbsX 0x1234) [] ∧
    decode true [0b10111101, 0x34, 0x12] = .ok (.ldaAbsX 0x1234) [] ∧
    decode true [0b10111110, 0x34, 0x12] = .ok (.ldxAbsY 0x1234) [] ∧
    decode true [0b10111111, 0x34, 0x12] = .ok (.bbs3 0x34 0x12) [] := by decide

/-- Row Cx. -/
theorem test_decode_rowC :
    decode true [0b11000000, 0x34] = .ok (.cpyImm 0x34) [] ∧
    decode true [0b11000001, 0x34] = .ok (.cmpZpIndX 0x34) [] ∧
    decode true [0b11000100, 0x34] = .ok (.cpyZp 0x34) [] ∧
    decode true [0b11000101, 0x34] = .ok (.cmpZp 0x34) [] ∧
    decode true [0b11000110, 0x34] = .ok (.decZp 0x34) [] ∧
    decode true [0b11000111, 0x34] = .ok (.smb4 0x34) [] ∧
    decode true [0b11001000, 0x34] = .ok .iny [0x34] ∧
    decode true [0b11001001, 0x34] = .ok (.cmpImm 0x34) [] ∧
    decode true [0b11001010, 0x34] = .ok .dex [0x34] ∧
    decode true [0b11001011, 0x34] = .ok .wai [0x34] ∧
    decode true [0b11001100, 0x34, 0x12] = .ok (.cpyAbs 0x1234) [] ∧
    decode true [0b11001101, 0x34, 0x12] = .ok (.cmpAbs 0x1234) [] ∧
    decode true [0b11001110, 0x34, 0x12] = .ok (.decAbs 0x1234) [] ∧
    decode true [0b11001111, 0x34, 0x12] = .ok (.bbs4 0x34 0x12) [] := by decide

/-- Row Dx. -/
theorem test_decode_rowD :
    decode true [0b11010000, 0x34] = .ok (.bne 0x34) [] ∧
    decode true [0b11010001, 0x34] = .ok (.cmpZpIndY 0x34) [] ∧
    decode true [0b11010010, 0x34] = .ok (.cmpZpInd 0x34) [] ∧
    decode true [0b11010101, 0x34] = .ok (.cmpZpX 0x34) [] ∧
    decode true [0b11010110, 0x34] = .ok (.decZpX 0x34) [] ∧
    decode true [0b11010111, 0x34] = .ok (.smb5 0x34) [] ∧
    decode true [0b11011000, 0x34] = .ok .cld [0x34] ∧
    decode true [0b11011001, 0x34, 0x12] = .ok (.cmpAbsY 0x1234) [] ∧
    decode true [0b11011010, 0x34] = .ok .phx [0x34] ∧
    decode true [0b11011011, 0x34] = .ok .stp [0x34] ∧
    decode true [0b11011101, 0x34, 0x12] = .ok (.cmpAbsX 0x1234) [] ∧
    decode true [0b11011110, 0x34, 0x12] = .ok (.decAbsX 0x1234) [] ∧
    decode true [0b11011111, 0x34, 0x12] = .ok (.bbs5 0x34 0x12) [] := by decide

/-- Row Ex. -/
theorem test_decode_rowE :
    decode true [0b11100000, 0x34] = .ok (.cpxImm 0x34) [] ∧
    decode true [0b11100001, 0x34] = .ok (.sbcZpIndX 0x34) [] ∧
    decode true [0b11100100, 0x34] = .ok (.cpxZp 0x34) [] ∧
    decode true [0b11100101, 0x34] = .ok (.sbcZp 0x34) [] ∧
    decode true [0b11100110, 0x34] = .ok (.incZp 0x34) [] ∧
    decode true [0b11100111, 0x34] = .ok (.smb6 0x34) [] ∧
    decode true [0b11101000, 0x34] = .ok .inx [0x34] ∧
    decode true [0b11101001, 0x34] = .ok (.sbcImm 0x34) [] ∧
    decode true [0b11101010, 0x34] = .ok .nop [0x34] ∧
    decode true [0b11101100, 0x34, 0x12] = .ok (.cpxAbs 0x1234) [] ∧
    decode true [0b11101101, 0x34, 0x12] = .ok (.sbcAbs 0x1234) [] ∧
    decode true [0b11101110, 0x34, 0x12] = .ok (.incAbs 0x1234) [] ∧
    decode true [0b11101111, 0x34, 0x12] = .ok (.bbs6 0x34 0x12) [] := by decide

/-- Row Fx. -/
theorem test_decode_rowF :
    decode true [0b11110000, 0x34] = .ok (.beq 0x34) [] ∧
    decode true [0b11110001, 0x34] = .ok (.sbcZpIndY 0x34) [] ∧
    decode true [0b11110010, 0x34] = .ok (.sbcZpInd 0x34) [] ∧
    decode true [0b11110101, 0x34] = .ok (.sbcZpX 0x34) [] ∧
    decode true [0b11110110, 0x34] = .ok (.incZpX 0x34) [] ∧
    decode true [0b11110111, 0x34] = .ok (.smb7 0x34) [] ∧
    decode true [0b11111000, 0x34] = .ok .sed [0x34] ∧
    decode true [0b11111001, 0x34, 0x12] = .ok (.sbcAbsY 0x1234) [] ∧
    decode true [0b11111010, 0x34] = .ok .plx [0x34] ∧
    decode true [0b11111101, 0x34, 0x12] = .ok (.sbcAbsX 0x1234) [] ∧
    decode true [0b11111110, 0x34, 0x12] = .ok (.incAbsX 0x1234) [] ∧
    decode true [0b11111111, 0x34, 0x12] = .ok (.bbs7 0x34 0x12) [] := by decide

/-- The 44 bytes of R133 have no entry, and without `ROCKWELL_BIT_OPS` neither have the 32 of R134. -/
theorem test_untabulated : (untabulated.all fun b => (lookup true b).isNone) = true ∧ untabulated.length = 44 := by decide
theorem test_bit_ops_untabulated :
    ([0x07, 0x77, 0x87, 0xF7, 0x0F, 0x7F, 0x8F, 0xFF].all fun b => (lookup false b).isNone && (lookup true b).isSome) =
      true := by decide

/-- `JMP $9000` is `4C 00 90` (R310), numbered with its first byte lowest; bits above the row's are zero. -/
theorem test_decode_table_word : decodeTableWord 24 0x90004C = some (.jmpAbs 0x9000) := by decide
theorem test_decode_table_word_short : decodeTableWord 8 0xFFFF00 = some (.brk 0x00) := by decide
theorem test_decode_truncated : decode true [0x4C, 0x00] = .rejected .truncated := by decide

/-! ## Ill-formed terms are refused -/

def noBitOps : Config := { Config.standard with rockwellBitOps := false }

theorem test_wf_bit_op_refused : (Instr.bbs7 0x10 0x05).wellFormed noBitOps = false := by decide
theorem test_wf_bit_op_allowed : (Instr.bbs7 0x10 0x05).wellFormed Config.standard = true := by decide
theorem test_wf_nop_allowed : Instr.nop.wellFormed noBitOps = true := by decide

def ramAttr : DeviceAttr := ⟨"RAM", 0x0000, 0x7FFF, true, .ram, .readWrite, 0x8000, false⟩
def romAttr : DeviceAttr := ⟨"ROM", 0x8000, 0xFFFF, true, .rom, .read, 0x8000, false⟩

theorem test_map_standard : mapWf Config.standard.ranges standardDevices = true := by decide
/-- R78 (a): a range that ends before it starts. -/
theorem test_map_reversed_range : mapWf [⟨0x8000, 0x7FFF, .ram⟩] [] = false := by decide
/-- R78 (b): two ranges that share 0x7FFF. -/
theorem test_map_overlap : mapWf [⟨0x0000, 0x7FFF, .ram⟩, ⟨0x7FFF, 0xFFFF, .rom⟩] [] = false := by decide
/-- R78 (c): two ranges of one chip-select. -/
theorem test_map_same_chip : mapWf [⟨0x0000, 0x7FFF, .ram⟩, ⟨0x8000, 0xFFFF, .ram⟩] [] = false := by decide
/-- R78 (d): a device whose range is not its chip-select's, and one whose array is too small. -/
theorem test_map_wrong_range :
    mapWf Config.standard.ranges [Device.blank { ramAttr with endAddress := 0x7FFE }] = false := by decide
theorem test_map_small_array :
    mapWf Config.standard.ranges [Device.blank { ramAttr with capacity := 0x7FFF }] = false := by decide
/-- R78 (e): two devices on one chip-select. -/
theorem test_map_two_devices : mapWf Config.standard.ranges [Device.blank ramAttr, Device.blank ramAttr] = false := by decide

/-- An array that lists what an unlisted index reads as, one out of order, and one beyond its end. -/
theorem test_array_lists_fill : Memory.wf 0xEA 16 [(3, 0xEA)] = false := by decide
theorem test_array_out_of_order : Memory.wf 0xEA 16 [(3, 0x01), (2, 0x01)] = false := by decide
theorem test_array_beyond_end : Memory.wf 0xEA 16 [(16, 0x01)] = false := by decide
theorem test_write_fill_removes : Cells.write 0xEA 3 0xEA [(2, 0x01), (3, 0x02)] = [(2, 0x01)] := by decide

/-! ## Small machines (map M1 of spec/95_test_vectors.md section 0) -/

/-- The start state of a vector: P, and code at 0x8000. -/
def machine (p : Byte) (code : List Byte) : State := { State.reset with pc := 0x8000, p := p }.loadBytes 0x8000 code

/-- One byte of memory more. -/
def putByte (a : Word) (v : Byte) (s : State) : State := s.load a v

/-- The IRQ and NMI vectors of section 0. -/
def withVectors (s : State) : State := s.loadBytes 0xFFFA [0x00, 0xA0, 0x00, 0x80, 0x00, 0x90]

/-- All of the address space is RAM (map M2). -/
def machineM2 (p : Byte) (pc : Word) (code : List Byte) : State :=
  { State.reset with
    p := p
    pc := pc
    devices := [Device.blank ⟨"RAM", 0x0000, 0xFFFF, true, .ram, .readWrite, 0x10000, false⟩]
    cfg := { Config.standard with ranges := [⟨0x0000, 0xFFFF, .ram⟩] } }.loadBytes pc code

/-- The state after one Step; a Step that does not answer a next state leaves PC, which the tests look at. -/
def after (s : State) : State :=
  match step s with
  | .next t => t
  | .fault _ => s
  | .refused _ => s

def refusedAs (s : State) : Option Refusal :=
  match step s with
  | .next _ => none
  | .fault _ => none
  | .refused why => some why

/-! ## One Step each, with the end states of spec/95_test_vectors.md (by its vector names) and of the rules' examples -/

/-- A1. -/
theorem test_adc_overflow :
    (let t := after { (machine 0x24 [0x69, 0x01]) with a := 0x7F }
     t.a = 0x80 ∧ t.p = 0xE4 ∧ t.pc = 0x8002) := by decide
/-- S3. -/
theorem test_adc_carry :
    (let t := after { (machine 0x24 [0x69, 0xFF]) with a := 0x80 }
     t.a = 0x7F ∧ t.p = 0x65 ∧ t.ticks = 2) := by decide
/-- S4. -/
theorem test_sbc :
    (let t := after { (machine 0x25 [0xE9, 0x3C]) with a := 0x64 }
     t.a = 0x28 ∧ t.p = 0x25) := by decide
/-- A7. -/
theorem test_sbc_borrow :
    (let t := after { (machine 0x24 [0xE9, 0x00]) with a := 0x00 }
     t.a = 0xFF ∧ t.p = 0xA4) := by decide
/-- A8. -/
theorem test_adc_decimal :
    (let t := after { (machine 0x2D [0x69, 0x46]) with a := 0x58 }
     t.a = 0x05 ∧ t.p = 0x6D) := by decide
/-- A14c. -/
theorem test_sbc_decimal :
    (let t := after { (machine 0x2D [0xE9, 0x21]) with a := 0x12 }
     t.a = 0x91 ∧ t.p = 0xAC) := by decide
/-- A14d. -/
theorem test_adc_decimal_fault :
    (let t := after { (machine 0x2C [0x69, 0x01]) with a := 0x10, cfg := { Config.standard with decimalMode := .fault } }
     t.a = 0x10 ∧ t.p = 0x2C ∧ t.pc = 0x8000 ∧ t.ticks = 2 ∧ t.stopped = true ∧ t.faultReason = (some (.notImplemented 0x69 0x8000))) := by decide
/-- A16. -/
theorem test_cmp :
    (let t := after { (machine 0x24 [0xC9, 0x80]) with a := 0x00 }
     t.a = 0x00 ∧ t.p = 0xA4) := by decide
/-- A17. -/
theorem test_cpx :
    (let t := after { (machine 0x24 [0xE0, 0x06]) with x := 0x05 }
     t.x = 0x05 ∧ t.p = 0xA4) := by decide
/-- A18. -/
theorem test_cpy :
    (let t := after { (machine 0x24 [0xC0, 0x10]) with x := 0x20, y := 0x10 }
     t.p = 0x27) := by decide
/-- A20. -/
theorem test_inc :
    (let t := after { (putByte 0x0010 0xFF (machine 0x24 [0xE6, 0x10])) with a := 0x55 }
     t.p = 0x26 ∧ t.ticks = 4 ∧ t.peek 0x0010 = some 0x00) := by decide
/-- A21. -/
theorem test_dec :
    (let t := after (putByte 0x0010 0x00 (machine 0x24 [0xC6, 0x10]))
     t.p = 0xA4 ∧ t.peek 0x0010 = some 0xFF) := by decide
/-- A24. -/
theorem test_inc_a :
    (let t := after { (machine 0x24 [0x1A]) with a := 0x7F }
     t.a = 0x80 ∧ t.p = 0xA4) := by decide
/-- the example of R214. -/
theorem test_dec_a :
    (let t := after { (machine 0x24 [0x3A]) with a := 0x01 }
     t.a = 0x00 ∧ t.p = 0x26) := by decide
/-- A22. -/
theorem test_inx :
    (let t := after { (machine 0x24 [0xE8]) with x := 0xFF }
     t.x = 0x00 ∧ t.p = 0x26 ∧ t.ticks = 1) := by decide
/-- the example of R216. -/
theorem test_iny :
    (let t := after { (machine 0x24 [0xC8]) with y := 0xFF }
     t.y = 0x00 ∧ t.p = 0x26) := by decide
/-- the example of R217. -/
theorem test_dex :
    (let t := after { (machine 0x24 [0xCA]) with x := 0x01 }
     t.x = 0x00 ∧ t.p = 0x26) := by decide
/-- A23. -/
theorem test_dey :
    (let t := after { (machine 0x24 [0x88]) with y := 0x00 }
     t.y = 0xFF ∧ t.p = 0xA4) := by decide
/-- H1. -/
theorem test_asl_a :
    (let t := after { (machine 0x24 [0x0A]) with a := 0x81 }
     t.a = 0x02 ∧ t.p = 0x25) := by decide
/-- H5. -/
theorem test_asl :
    (let t := after (putByte 0x0010 0x40 (machine 0x24 [0x06, 0x10]))
     t.p = 0xA4 ∧ t.ticks = 4 ∧ t.peek 0x0010 = some 0x80) := by decide
/-- H2. -/
theorem test_lsr_a :
    (let t := after { (machine 0x24 [0x4A]) with a := 0x01 }
     t.a = 0x00 ∧ t.p = 0x27) := by decide
/-- the example of R241. -/
theorem test_lsr :
    (let t := after (putByte 0x0010 0x02 (machine 0x24 [0x46, 0x10]))
     t.p = 0x24 ∧ t.peek 0x0010 = some 0x01) := by decide
/-- the example of R242. -/
theorem test_rol_a :
    (let t := after { (machine 0x25 [0x2A]) with a := 0x40 }
     t.a = 0x81 ∧ t.p = 0xA4) := by decide
/-- H4. -/
theorem test_ror_a :
    (let t := after { (machine 0x25 [0x6A]) with a := 0x01 }
     t.a = 0x80 ∧ t.p = 0xA5) := by decide
/-- H6. -/
theorem test_ror :
    (let t := after (putByte 0x1200 0x02 (machine 0x24 [0x6E, 0x00, 0x12]))
     t.p = 0x24 ∧ t.ticks = 5 ∧ t.peek 0x1200 = some 0x01) := by decide
/-- K2. -/
theorem test_pha :
    (let t := after { (machine 0x24 [0x48]) with a := 0x5A, s := 0x00 }
     t.s = 0xFF ∧ t.pc = 0x8001 ∧ t.peek 0x0100 = some 0x5A) := by decide
/-- the example of R261. -/
theorem test_phx :
    (let t := after { (machine 0x24 [0xDA]) with x := 0x01, s := 0xFE }
     t.s = 0xFD ∧ t.peek 0x01FE = some 0x01) := by decide
/-- the example of R262. -/
theorem test_phy :
    (let t := after { (machine 0x24 [0x5A]) with y := 0x02, s := 0x00 }
     t.s = 0xFF ∧ t.peek 0x0100 = some 0x02) := by decide
/-- K4. -/
theorem test_php :
    (let t := after (machine 0x24 [0x08])
     t.p = 0x24 ∧ t.s = 0xFE ∧ t.peek 0x01FF = some 0x34) := by decide
/-- K3. -/
theorem test_pla :
    (let t := after (putByte 0x0100 0x80 (machine 0x24 [0x68]))
     t.a = 0x80 ∧ t.p = 0xA4 ∧ t.s = 0x00) := by decide
/-- the example of R265. -/
theorem test_plx :
    (let t := after { (putByte 0x01FE 0x00 (machine 0x24 [0xFA])) with s := 0xFD }
     t.x = 0x00 ∧ t.p = 0x26 ∧ t.s = 0xFE) := by decide
/-- the example of R266. -/
theorem test_ply :
    (let t := after (putByte 0x0100 0x7F (machine 0x24 [0x7A]))
     t.y = 0x7F ∧ t.p = 0x24 ∧ t.s = 0x00) := by decide
/-- K5. -/
theorem test_plp :
    (let t := after { (putByte 0x01FF 0xFF (machine 0x24 [0x28])) with s := 0xFE }
     t.p = 0xEF ∧ t.s = 0xFF) := by decide
/-- the example of R281. -/
theorem test_bpl :
    (let t := after (machine 0x24 [0x10, 0x10])
     t.pc = 0x8012) := by decide
/-- the example of R282. -/
theorem test_bmi :
    (let t := after (machine 0xA4 [0x30, 0xFE])
     t.pc = 0x8000 ∧ t.ticks = 2) := by decide
/-- the example of R283. -/
theorem test_bvc :
    (let t := after (machine 0x24 [0x50, 0x7F])
     t.pc = 0x8081) := by decide
/-- the example of R284. -/
theorem test_bvs :
    (let t := after (machine 0x64 [0x70, 0x80])
     t.pc = 0x7F82) := by decide
/-- the example of R285. -/
theorem test_bcc :
    (let t := after (machine 0x24 [0x90, 0x02])
     t.pc = 0x8004) := by decide
/-- B6. -/
theorem test_bcs_clamps :
    (let t := after (machineM2 0x25 0xFFF0 [0xB0, 0x7F])
     t.pc = 0xFFFF) := by decide
/-- R287, not taken. -/
theorem test_bne :
    (let t := after (machine 0x26 [0xD0, 0xFB])
     t.pc = 0x8002) := by decide
/-- B7. -/
theorem test_beq_below_zero :
    (let t := after (machineM2 0x26 0x0000 [0xF0, 0x80])
     t.pc = 0x0000 ∧ t.stopped = true ∧ t.faultReason = (some (.pcRange (-126)))) := by decide
/-- B2. -/
theorem test_bra :
    (let t := after (machine 0x24 [0x80, 0x7F])
     t.pc = 0x8081) := by decide
/-- B3. -/
theorem test_bbr0 :
    (let t := after (putByte 0x0010 0xFE (machine 0x24 [0x0F, 0x10, 0x05]))
     t.pc = 0x8008 ∧ t.ticks = 4) := by decide
/-- B5. -/
theorem test_bbs7 :
    (let t := after (putByte 0x0010 0x80 (machine 0x24 [0xFF, 0x10, 0xFD]))
     t.pc = 0x8000 ∧ t.ticks = 4) := by decide
/-- R290, R295. -/
theorem test_bbr4_not_taken :
    (let t := after (putByte 0x0010 0x10 (machine 0x24 [0x4F, 0x10, 0x05]))
     t.pc = 0x8003) := by decide
/-- the form of R304. -/
theorem test_bbs3 :
    (let t := after (putByte 0x0030 0x08 (machine 0x24 [0xBF, 0x30, 0x02]))
     t.pc = 0x8005) := by decide
/-- the example of R310. -/
theorem test_jmp :
    (let t := after (machine 0x24 [0x4C, 0x00, 0x90])
     t.pc = 0x9000 ∧ t.ticks = 3) := by decide
/-- B10. -/
theorem test_jmp_indirect :
    (let t := after (putByte 0x1000 0x99 (putByte 0x1100 0x12 (putByte 0x10FF 0x34 (machine 0x24 [0x6C, 0xFF, 0x10]))))
     t.pc = 0x1234 ∧ t.ticks = 5) := by decide
/-- B11. -/
theorem test_jmp_indexed_indirect :
    (let t := after { (putByte 0x1003 0xA0 (putByte 0x1002 0x00 (machine 0x24 [0x7C, 0x00, 0x10]))) with x := 0x02 }
     t.pc = 0xA000 ∧ t.ticks = 5) := by decide
/-- B12. -/
theorem test_jsr :
    (let t := after (machine 0x24 [0x20, 0x34, 0x12])
     t.pc = 0x1234 ∧ t.s = 0xFD ∧ t.ticks = 5 ∧ t.peek 0x01FF = some 0x80 ∧ t.peek 0x01FE = some 0x02) := by decide
/-- the example of R312. -/
theorem test_rts :
    (let t := after { (putByte 0x01FF 0x80 (putByte 0x01FE 0x0D (machine 0x24 [0x60]))) with s := 0xFD }
     t.pc = 0x800E ∧ t.s = 0xFF) := by decide
/-- B14. -/
theorem test_rti :
    (let t := after { (putByte 0x01FF 0x12 (putByte 0x01FE 0x34 (putByte 0x01FD 0xC3 (machine 0x24 [0x40])))) with s := 0xFC }
     t.pc = 0x1234 ∧ t.s = 0xFF ∧ t.p = 0xE3) := by decide
/-- L1b. -/
theorem test_ora :
    (let t := after { (machine 0x24 [0x09, 0x0F]) with a := 0xFF }
     t.a = 0xFF ∧ t.p = 0xA4) := by decide
/-- L2. -/
theorem test_and :
    (let t := after { (machine 0x24 [0x29, 0x3C]) with a := 0xF0 }
     t.a = 0x30 ∧ t.p = 0x24) := by decide
/-- L3. -/
theorem test_eor :
    (let t := after { (machine 0x24 [0x49, 0x0F]) with a := 0xFF }
     t.a = 0xF0 ∧ t.p = 0xA4) := by decide
/-- L4. -/
theorem test_bit_memory :
    (let t := after { (putByte 0x0010 0xC0 (machine 0x24 [0x24, 0x10])) with a := 0x0F }
     t.p = 0xE6 ∧ t.ticks = 3) := by decide
/-- L5. -/
theorem test_bit_immediate :
    (let t := after { (machine 0x24 [0x89, 0xC0]) with a := 0x0F }
     t.p = 0x26) := by decide
/-- L6. -/
theorem test_trb :
    (let t := after { (putByte 0x0040 0xFF (machine 0x24 [0x14, 0x40])) with a := 0x0F }
     t.p = 0x24 ∧ t.peek 0x0040 = some 0xF0) := by decide
/-- L7. -/
theorem test_tsb :
    (let t := after { (putByte 0x0040 0xF0 (machine 0x24 [0x04, 0x40])) with a := 0x0F }
     t.p = 0x26 ∧ t.peek 0x0040 = some 0xFF) := by decide
/-- L8. -/
theorem test_rmb3 :
    (let t := after (putByte 0x0040 0xFF (machine 0x24 [0x37, 0x40]))
     t.p = 0x24 ∧ t.ticks = 4 ∧ t.peek 0x0040 = some 0xF7) := by decide
/-- L9. -/
theorem test_smb7 :
    (let t := after (putByte 0x0040 0x00 (machine 0x24 [0xF7, 0x40]))
     t.ticks = 4 ∧ t.peek 0x0040 = some 0x80) := by decide
/-- M3v. -/
theorem test_lda_indexed_indirect :
    (let t := after { (putByte 0x1200 0x5A (putByte 0x0000 0x12 (putByte 0x00FF 0x00 (machine 0x24 [0xA1, 0xFE])))) with x := 0x01 }
     t.a = 0x5A ∧ t.ticks = 5) := by decide
/-- M5v. -/
theorem test_lda_indirect_indexed :
    (let t := after { (putByte 0x0008 0x11 (putByte 0x0021 0xFF (putByte 0x0020 0xF8 (machine 0x24 [0xB1, 0x20])))) with y := 0x10 }
     t.a = 0x11) := by decide
/-- M7v. -/
theorem test_ldx :
    (let t := after { (putByte 0x0000 0x80 (machine 0x24 [0xB6, 0xFF])) with y := 0x01 }
     t.x = 0x80 ∧ t.p = 0xA4) := by decide
/-- the example of R402. -/
theorem test_ldy :
    (let t := after (machine 0x24 [0xA0, 0x02])
     t.y = 0x02 ∧ t.p = 0x24) := by decide
/-- T2. -/
theorem test_sta :
    (let t := after { (machine 0x24 [0x8D, 0x00, 0x12]) with a := 0x0F }
     t.p = 0x24 ∧ t.ticks = 4 ∧ t.peek 0x1200 = some 0x0F) := by decide
/-- T6. -/
theorem test_sta_into_rom :
    (let t := after { (machine 0x24 [0x8D, 0x00, 0x90]) with a := 0x01 }
     t.pc = 0x8000 ∧ t.ticks = 4 ∧ t.stopped = true ∧ t.faultReason = (some (.writeProtect 0x9000))) := by decide
/-- the example of R404. -/
theorem test_stx :
    (let t := after { (machine 0x24 [0x86, 0x20]) with x := 0x11 }
     t.peek 0x0020 = some 0x11) := by decide
/-- the example of R405. -/
theorem test_sty :
    (let t := after { (machine 0x24 [0x8C, 0x34, 0x12]) with y := 0x22 }
     t.peek 0x1234 = some 0x22) := by decide
/-- T3. -/
theorem test_stz :
    (let t := after { (machine 0x24 [0x9E, 0x00, 0x10]) with x := 0x05 }
     t.peek 0x1005 = some 0x00) := by decide
/-- the example of R407. -/
theorem test_tax :
    (let t := after { (machine 0x24 [0xAA]) with a := 0x80 }
     t.x = 0x80 ∧ t.p = 0xA4) := by decide
/-- the example of R408. -/
theorem test_tay :
    (let t := after { (machine 0x24 [0xA8]) with a := 0x01 }
     t.y = 0x01 ∧ t.p = 0x24) := by decide
/-- the example of R409. -/
theorem test_txa :
    (let t := after { (machine 0x24 [0x8A]) with x := 0xFF }
     t.a = 0xFF ∧ t.p = 0xA4) := by decide
/-- the example of R410. -/
theorem test_tya :
    (let t := after { (machine 0x24 [0x98]) with y := 0x00, a := 0x07 }
     t.a = 0x00 ∧ t.p = 0x26) := by decide
/-- the example of R411. -/
theorem test_tsx :
    (let t := after { (machine 0x24 [0xBA]) with s := 0xFD }
     t.x = 0xFD ∧ t.p = 0xA4) := by decide
/-- T5. -/
theorem test_txs :
    (let t := after { (machine 0x26 [0x9A]) with x := 0x00 }
     t.s = 0x00 ∧ t.p = 0x26) := by decide
/-- Y1. -/
theorem test_brk :
    (let t := after (withVectors (machine 0x20 [0x00, 0x00]))
     t.pc = 0x9000 ∧ t.p = 0x34 ∧ t.s = 0xFC ∧ t.ticks = 7 ∧ t.peek 0x01FF = some 0x80 ∧ t.peek 0x01FE = some 0x02 ∧ t.peek 0x01FD = some 0x30) := by decide
/-- Y4. -/
theorem test_brk_masked_halt :
    (let t := after { (machine 0x24 [0x00, 0x00]) with cfg := { Config.standard with brkMasked := .halt } }
     t.p = 0x34 ∧ t.pc = 0x8002 ∧ t.s = 0xFF ∧ t.ticks = 2) := by decide
/-- Y7. -/
theorem test_wai :
    (let t := after (machine 0x24 [0xCB])
     t.waiting = true ∧ t.pc = 0x8001) := by decide
/-- Y10. -/
theorem test_stp :
    (let t := after (machine 0x20 [0xDB])
     t.stp = true ∧ t.pc = 0x8001) := by decide
/-- B9. -/
theorem test_nop_at_top :
    (let t := after (machineM2 0x24 0xFFFF [0xEA])
     t.pc = 0xFFFF ∧ t.ticks = 1) := by decide
/-- the example of R450. -/
theorem test_clc :
    (let t := after (machine 0x25 [0x18])
     t.p = 0x24) := by decide
/-- the example of R451. -/
theorem test_sec :
    (let t := after (machine 0x24 [0x38])
     t.p = 0x25) := by decide
/-- the example of R452. -/
theorem test_cli :
    (let t := after (machine 0x24 [0x58])
     t.p = 0x20) := by decide
/-- the example of R453. -/
theorem test_sei :
    (let t := after (machine 0x20 [0x78])
     t.p = 0x24) := by decide
/-- the example of R454. -/
theorem test_cld :
    (let t := after (machine 0x2C [0xD8])
     t.p = 0x24) := by decide
/-- Y11. -/
theorem test_sed :
    (let t := after (machine 0x24 [0xF8])
     t.p = 0x2C) := by decide
/-- Y12. -/
theorem test_clv :
    (let t := after (machine 0x64 [0xB8])
     t.p = 0x24) := by decide
/-- Y20. -/
theorem test_unknown_opcode :
    (let t := after (machine 0x24 [0x02])
     t.pc = 0x8000 ∧ t.ticks = 1 ∧ t.stopped = true ∧ t.faultReason = (some (.unknownOpcode 0x02 0x8000))) := by decide
/-- Y13. -/
theorem test_irq_entry :
    (let t := after { (withVectors (machine 0x20 [0xEA])) with irqPending := true }
     t.pc = 0x9000 ∧ t.p = 0x24 ∧ t.s = 0xFC ∧ t.ticks = 5 ∧ t.irqPending = false ∧ t.peek 0x01FF = some 0x80 ∧ t.peek 0x01FE = some 0x00 ∧ t.peek 0x01FD = some 0x20) := by decide
/-- Y15. -/
theorem test_nmi_before_irq :
    (let t := after { (withVectors (machine 0x20 [0xEA])) with irqPending := true, nmiPending := true }
     t.pc = 0xA000 ∧ t.nmiPending = false ∧ t.irqPending = true ∧ t.peek 0x01FD = some 0x20) := by decide
/-- Y8. -/
theorem test_masked_irq_resumes_wai :
    (let t := after { (machine 0x24 [0xE8]) with waiting := true, irqPending := true }
     t.x = 0x01 ∧ t.waiting = false ∧ t.irqPending = true) := by decide
/-- M8v. -/
theorem test_operand_wraps_past_top :
    (let t := after (putByte 0x0000 0x42 (machineM2 0x24 0xFFFF [0xA9]))
     t.a = 0x42 ∧ t.pc = 0xFFFF ∧ t.ticks = 2) := by decide

/-- S9, Y20: the Step after an unknown opcode is refused, until Reset. -/
theorem test_refused_while_stopped : refusedAs (after (machine 0x24 [0x02])) = some .stepWhileStopped := by decide
/-- Y10. -/
theorem test_refused_while_stp : refusedAs { machine 0x20 [0xEA] with stp := true, irqPending := true } = some .stepWhileStp := by
  decide
/-- Y7. -/
theorem test_refused_while_waiting : refusedAs { machine 0x24 [0xEA] with waiting := true } = some .stepWhileHalted := by decide

/-- S11, R562: Reset from a stopped machine. -/
theorem test_reset_command :
    (let t := { withVectors (machine 0xFF [0xEA]) with a := 0x12, stopped := true, irqPending := true, ticks := 99 }.hostReset
     t.a = 0x00 ∧ t.s = 0xFF ∧ t.p = 0x24 ∧ t.pc = 0x8000 ∧ t.ticks = 0 ∧ t.stopped = false ∧ t.irqPending = false) := by
  decide

/-- R565: the reset state is the launch state of the default parameters over map M1 with no image flashed. -/
theorem test_reset_is_launch : launch Config.standard (standardDevices.map fun d => ⟨d, none⟩) = .next State.reset := by rfl

/-- R1 of section 10: Run stops before the Step at a breakpoint, the first Step apart. -/
theorem test_run_breakpoint :
    (({ machine 0x24 [0xEA, 0xEA, 0xEA, 0xDB] with breakpoints := [0x8002] }.runCommand [[], [], [], []]).1 =
      some .atBreakpoint) := by decide
/-- R3: WAI, then the refused Step. -/
theorem test_run_waits : ((machine 0x20 [0xCB]).runCommand [[], []]).1 = some (.refused .stepWhileHalted) := by decide

/-- R508: an image one byte too large, and one of the wrong size for the 32K variant. -/
theorem test_flash_too_large : flash Config.standard ⟨[1, 2, 3], true⟩ (Device.blank { romAttr with capacity := 2 }) =
    .error .romImageTooLarge := by rfl
theorem test_flash_wrong_size : flash Config.standard ⟨[1, 2, 3], true⟩ (Device.blank { romAttr with rom32k := true }) =
    .error .romImageSizeMismatch := by rfl

/-- R508, R78 (d): the configured RAM range 0x0000 to 0x7FFF over a device of 0x100 bytes; and the event it publishes. -/
theorem test_range_exceeds_capacity :
    launch Config.standard [⟨Device.blank { ramAttr with endAddress := 0x00FF, capacity := 0x0100 }, none⟩] =
      .fault .rangeExceedsCapacity := by rfl
theorem test_configuration_error_event :
    (let s := { machine 0x24 [0xEA] with a := 0x12 }
     let t := s.configureAndFlash Config.standard [⟨Device.blank { romAttr with capacity := 0x7FFF }, none⟩]
     t.events = [.configError .rangeExceedsCapacity] ∧ t.a = 0x12 ∧ t.stopped = false ∧ t.devices = s.devices) := by decide

/-- An I/O device on IO0 beside a RAM. -/
def withIo : State :=
  { State.reset with
    devices := [Device.blank ramAttr, Device.blank ⟨"ACIA", 0x8000, 0x8003, true, .io 0, .readWrite, 4, false⟩]
    cfg := { Config.standard with ranges := [⟨0x0000, 0x7FFF, .ram⟩, ⟨0x8000, 0x8003, .io 0⟩] } }

/-- R97: a step of the agent of IO0 changes that device's own state, and a step of an absent one changes nothing. -/
theorem test_device_step :
    (let t := withIo.deviceStep (.io 0) 7
     t.devices.map (·.history) = [[], [.ownStep 7]] ∧ t.irqPending = false ∧ t.a = 0x00) ∧
    withIo.deviceStep (.io 1) 7 = withIo ∧ withIo.deviceStep .ram 7 = withIo := by decide

/-- The word of the opcode table placed where the next Step fetches it runs as the first instruction. -/
theorem test_with_fetch_word : (after (State.reset.withFetchWord 16 0x20A9)).a = 0x20 := by decide

/-! ## Witnesses: for each statement with hypotheses, a concrete state and operands that meet them

`machine p code` has RAM at 0x0000 to 0x7FFF and ROM above; its stack is RAM. A statement whose hypotheses are one of a
few operations has a witness for each. -/

/-- The next state of an instruction. -/
def ran (i : Instr) (s : State) : State := (perform i.opcode i.operation s).final

theorem exec_ran (i : Instr) (s : State) : exec i s = .next (ran i s) := exec_eq_next i s

def plain : State := machine 0x24 [0xEA, 0xEA, 0xEA]

/-- The stack page is read-only (map M3). -/
def machineM3 : State :=
  { State.reset with
    pc := 0x0010
    devices :=
      [Device.blank ⟨"RAM", 0x0000, 0x00FF, true, .ram, .readWrite, 0x0100, false⟩,
       Device.blank ⟨"ROM", 0x0100, 0xFFFF, true, .rom, .read, 0xFF00, false⟩]
    cfg := { Config.standard with ranges := [⟨0x0000, 0x00FF, .ram⟩, ⟨0x0100, 0xFFFF, .rom⟩] } }

theorem wf_plain : plain.memoryWf := by unfold State.memoryWf; decide
theorem ram_zero : plain.isRam 0x0000 := by unfold State.isRam; decide
theorem ram_top : plain.isRam 0x7FFF := by unfold State.isRam; decide
theorem ram_stack : plain.isRam (stackAddr plain.s) := by unfold State.isRam; decide
theorem ram_stack1 : plain.isRam (stackAddr (plain.s - 1)) := by unfold State.isRam; decide
theorem ram_stack2 : plain.isRam (stackAddr (plain.s - 2)) := by unfold State.isRam; decide
theorem inv_plain : plain.Inv where
  unused := by unfold State.unusedBitSet; decide
  memory := wf_plain
  breakHalt := by unfold State.breakMasksIrq; decide
  reason := by unfold State.reasonWhileStopped; decide
  sorted := by unfold State.breakpointsSorted; decide

theorem witness_DecodeOfEncodeIsTheInstruction :
    (Instr.bbs7 0xFF 0x80).wellFormed Config.standard = true ∧ (Instr.jmpAbs 0xFFFF).wellFormed noBitOps = true := by decide

theorem witness_DecodedBytesAreTheEncoding :
    decode Config.standard.rockwellBitOps [0x6C, 0xFF, 0x10, 0x00] = .ok (.jmpAbsInd 0x10FF) [0x00] := by decide

theorem witness_BitNumberStandsInTheOpcode :
    (Instr.bbr0 0x00 0xFF).operation = .branchBit 0 false 0x00 0xFF ∧
    (Instr.bbs7 0xFF 0x00).operation = .branchBit 7 true 0xFF 0x00 ∧
    (Instr.rmb7 0x30).operation = .modify (.rmb 7) (.zp 0x30) ∧
    (Instr.smb0 0x30).operation = .modify (.smb 0) (.zp 0x30) := by decide

theorem witness_UntabulatedByteLatchesUnknownOpcode :
    (machine 0x24 [0x02]).ready ∧ (machine 0x24 [0x02]).noIo 0x8000 ∧
      (machine 0x24 [0x02]).peek 0x8000 = some 0x02 ∧ 0x02 ∈ untabulated := by
  unfold State.ready State.noIo; decide

/-- A masked IRQ resumes the WAI. -/
theorem witness_UntabulatedByte_resuming :
    (let s := { machine 0x24 [0x02] with waiting := true, irqPending := true }
     s.ready ∧ s.noIo 0x8000 ∧ s.peek 0x8000 = some 0x02) := by
  unfold State.ready State.noIo; decide

theorem witness_UntabulatedByte_bitOps :
    (let s := { machine 0x24 [0xFF, 0x10, 0x05] with cfg := noBitOps }
     s.ready ∧ s.noIo 0x8000 ∧ s.peek 0x8000 = some 0xFF ∧ s.cfg.rockwellBitOps = false ∧
       bitOpByte 0xFF = true) := by
  unfold State.ready State.noIo; decide

/-- An instruction whose operand bytes wrap past the top of memory. -/
theorem witness_StepExecutesTheDecodedInstruction :
    (let s := ((machineM2 0x24 0xFFFF [0x4C]).load 0x0000 0x34).load 0x0001 0x12
     s.ready ∧ (∀ k, k < 3 → s.noIo (s.pc + BitVec.ofNat 16 k)) ∧ s.peek s.pc = some 0x4C ∧
       s.peek (s.pc + 1) = some 0x34 ∧ s.peek (s.pc + 2) = some 0x12 ∧
       decode s.cfg.rockwellBitOps [0x4C, 0x34, 0x12] = .ok (.jmpAbs 0x1234) []) := by
  unfold State.ready State.noIo; decide

theorem witness_RefusedStepsChangeNothing :
    { plain with stopped := true }.stopped = true ∧
    ({ plain with stp := true }.stopped = false ∧ { plain with stp := true }.stp = true) ∧
    (let s := { plain with waiting := true }
     s.stopped = false ∧ s.stp = false ∧ (s.flag .b = true ∨ s.waiting = true) ∧ s.nmiPending = false ∧
       (s.irqPending = true → s.flag .i = true) ∧ (s.irqPending = true → s.flag .b = true)) ∧
    (let s := { machine 0x34 [0xEA] with irqPending := true }
     s.stopped = false ∧ s.stp = false ∧ (s.flag .b = true ∨ s.waiting = true) ∧ s.nmiPending = false ∧
       (s.irqPending = true → s.flag .i = true) ∧ (s.irqPending = true → s.flag .b = true)) := by decide

theorem witness_refused : step { plain with waiting := true } = .refused .stepWhileHalted := by rfl

theorem witness_InterruptEntryVectorsAndSavesState :
    (let s := { withVectors (machine 0x20 [0xEA]) with irqPending := true }
     s.stopped = false ∧ s.stp = false ∧ pendingEntry s = some .irq ∧ s.writable (stackAddr s.s) = true ∧
       s.writable (stackAddr (s.s - 1)) = true ∧ s.writable (stackAddr (s.s - 2)) = true) ∧
    (let s := { withVectors (machine 0x24 [0xEA]) with nmiPending := true, irqPending := true, s := 0x01 }
     s.stopped = false ∧ s.stp = false ∧ pendingEntry s = some .nmi ∧ s.writable (stackAddr s.s) = true ∧
       s.writable (stackAddr (s.s - 1)) = true ∧ s.writable (stackAddr (s.s - 2)) = true) := by decide

theorem step_plain : step plain = .next (after plain) := by rfl

theorem witness_StepKeepsTheInvariant : plain.Inv ∧ step plain = .next (after plain) := ⟨inv_plain, step_plain⟩

theorem witness_EveryHostCommandKeepsTheInvariant : plain.Inv := inv_plain

theorem witness_StepsNeverChangeTheConfiguration :
    step plain = .next (after plain) ∧
      (let d := Device.blank ramAttr
       withIo.devices[0]? = some d ∧ d.attr.mappedIo ≠ .io 0 ∧ d.attr.mappedIo.isIo = false) := ⟨step_plain, by decide⟩

theorem witness_OnlyListedInstructionsWriteTheRegisters :
    exec (.staAbs 0x1200) plain = .next (ran (.staAbs 0x1200) plain) ∧
      writesA (Instr.staAbs 0x1200).operation = false ∧ writesX (Instr.staAbs 0x1200).operation = false ∧
      writesY (Instr.staAbs 0x1200).operation = false ∧ writesS (Instr.staAbs 0x1200).operation = false :=
  ⟨exec_ran _ _, by decide, by decide, by decide, by decide⟩

theorem witness_OnlyNamedFlagsChange :
    exec (.adcImm 0x01) plain = .next (ran (.adcImm 0x01) plain) ∧
      writesFlag (Instr.adcImm 0x01).operation .i = false ∧ writesFlag (Instr.adcImm 0x01).operation .u = false ∧
      plain.flag .u = true := ⟨exec_ran _ _, by decide, by decide, by decide⟩

theorem witness_LatchesChangeOnlyAsNamed :
    exec .nop plain = .next (ran .nop plain) ∧ Instr.nop.operation ≠ .wai ∧ Instr.nop.operation ≠ .stp :=
  ⟨exec_ran _ _, by decide, by decide⟩

theorem witness_OnlyStoredBytesChange :
    exec (.staAbs 0x1200) plain = .next (ran (.staAbs 0x1200) plain) ∧
      0x1201 ∉ storedAt (Instr.staAbs 0x1200).operation plain ∧
      exec (.cmpImm 0x01) plain = .next (ran (.cmpImm 0x01) plain) ∧
      0x0000 ∉ storedAt (Instr.cmpImm 0x01).operation plain := ⟨exec_ran _ _, by decide, exec_ran _ _, by decide⟩

theorem witness_TicksPerInstruction :
    exec (.incZp 0x10) plain = .next (ran (.incZp 0x10) plain) ∧ unfaulted plain (ran (.incZp 0x10) plain) :=
  ⟨exec_ran _ _, by unfold unfaulted; decide⟩

/-- The pointer of (zp) at 0xFF has its high byte at 0x00. -/
theorem witness_EffectiveAddresses :
    (let s := { (plain.load 0x00FF 0x34).load 0x0000 0x12 with x := 0x01 }
     s.peek (zext 0xFF) = some 0x34 ∧ s.peek (zext (0xFF + 1)) = some 0x12 ∧
       s.peek (zext (0xFE + s.x)) = some 0x34 ∧ s.peek (zext (0xFE + s.x + 1)) = some 0x12) := by decide

theorem witness_OperandsAreReadWithoutAnyWrite :
    (plain.load 0x0010 0x77).peek (effectiveAddress (.zp 0x10) (plain.load 0x0010 0x77)).1 = some 0x77 := by decide

theorem witness_RamReadsTheLastWrite : plain.memoryWf ∧ plain.isRam 0x0000 ∧ plain.isRam 0x7FFF :=
  ⟨wf_plain, ram_zero, ram_top⟩

/-- A disabled device, and an address of no range. -/
theorem witness_UnmappedAddressesReadOpenBus :
    (let s := { plain with devices := [Device.blank { ramAttr with enabled := false }] }
     ∀ d ∈ s.devices, d.attr.enabled = true → d.attr.mappedIo ∉ decodeAddress s.cfg.ranges 0x0000) ∧
    (let s := { plain with cfg := { Config.standard with ranges := [⟨0x0000, 0x7FFF, .ram⟩] } }
     ∀ d ∈ s.devices, d.attr.enabled = true → d.attr.mappedIo ∉ decodeAddress s.cfg.ranges 0x8000) := by decide

theorem witness_AtMostOneDeviceAnswers : plain.mapWellFormed = true := by decide

/-- The stack page is read-only up to 0x01FD and RAM above it. -/
def splitStack (p : Byte) : State :=
  { State.reset with
    p := p
    devices :=
      [Device.blank ⟨"ROM", 0x0000, 0x01FD, true, .rom, .read, 0x01FE, false⟩,
       Device.blank ⟨"RAM", 0x01FE, 0xFFFF, true, .ram, .readWrite, 0xFE02, false⟩]
    cfg := { Config.standard with ranges := [⟨0x0000, 0x01FD, .rom⟩, ⟨0x01FE, 0xFFFF, .ram⟩] } }

/-- A store, a read-modify-write, and each push in turn of PHP, JSR, BRK and an NMI entry. -/
theorem witness_StoreIntoReadOnlyMemoryFaults :
    (Instr.staAbs 0x8000).operation = .write .sta (.abs 0x8000) ∧ (Instr.rorAbs 0xFFFF).operation = .modify .ror (.abs 0xFFFF) ∧
      plain.mapWellFormed = true ∧ plain.writable (effectiveAddress (.abs 0x8000) plain).1 = false ∧
      plain.writable (effectiveAddress (.abs 0xFFFF) plain).1 = false ∧ (splitStack 0x20).mapWellFormed = true ∧
      refusedAt (pushes Instr.php.operation { splitStack 0x20 with s := 0xFD }) 0 { splitStack 0x20 with s := 0xFD } ∧
      refusedAt (pushes (Instr.jsr 0x1234).operation { splitStack 0x20 with s := 0xFE }) 1 { splitStack 0x20 with s := 0xFE } ∧
      refusedAt (pushes (Instr.brk 0x07).operation (splitStack 0x20)) 2 (splitStack 0x20) ∧
      (let s := { splitStack 0x24 with nmiPending := true }
       s.stopped = false ∧ s.stp = false ∧ pendingEntry s = some .nmi ∧ s.mapWellFormed = true ∧
         refusedAt (entryPushes s) 2 s) := by
  unfold refusedAt; decide

theorem witness_LoadsPutTheOperandInTheRegister :
    (Instr.ldaAbs 0xFFFF).operation = .read .lda (.mem (.abs 0xFFFF)) ∧
      (Instr.ldxImm 0x00).operation = .read .ldx (.imm 0x00) ∧
      (Instr.ldyZpX 0xFF).operation = .read .ldy (.mem (.zpX 0xFF)) := by decide

theorem witness_StoresWriteTheRegister :
    (Instr.stzAbs 0x7FFF).operation = .write .stz (.abs 0x7FFF) ∧
      plain.writable (effectiveAddress (.abs 0x7FFF) plain).1 = true ∧ plain.memoryWf ∧
      plain.isRam (effectiveAddress (.abs 0x7FFF) plain).1 := ⟨rfl, by decide, wf_plain, ram_top⟩

theorem witness_TransfersCopyRegisters :
    Instr.tax.operation = .register .tax ∧ Instr.tay.operation = .register .tay ∧
      Instr.txa.operation = .register .txa ∧ Instr.tya.operation = .register .tya ∧
      Instr.tsx.operation = .register .tsx ∧ Instr.txs.operation = .register .txs := by decide

theorem witness_AdcBinary_SbcBinary :
    (Instr.adcImm 0xFF).operation = .read .adc (.imm 0xFF) ∧ (Instr.sbcZp 0x00).operation = .read .sbc (.mem (.zp 0x00)) ∧
      plain.flag .d = false := by decide

theorem witness_AdcDecimal_SbcDecimal :
    (let s := { machine 0x2D [0xEA] with a := 0x99 }
     (Instr.adcImm 0x99).operation = .read .adc (.imm 0x99) ∧ (Instr.sbcImm 0x00).operation = .read .sbc (.imm 0x00) ∧
       s.flag .d = true ∧ s.cfg.decimalMode = .bcd65c02 ∧ isBcd s.a ∧ isBcd (readSource (.imm 0x99) s).1 ∧
       isBcd (readSource (.imm 0x00) s).1) := by
  unfold isBcd; decide

theorem witness_DecimalFaultMode :
    (let s := { machine 0x2C [0xEA] with cfg := { Config.standard with decimalMode := .fault } }
     (Instr.adcImm 0x01).operation = .read .adc (.imm 0x01) ∧ (Instr.sbcImm 0x01).operation = .read .sbc (.imm 0x01) ∧
       s.flag .d = true ∧ s.cfg.decimalMode = .fault) := by decide

theorem witness_Compares :
    (Instr.cmpImm 0x00).operation = .read .cmp (.imm 0x00) ∧ (Instr.cpxImm 0xFF).operation = .read .cpx (.imm 0xFF) ∧
      (Instr.cpyZp 0xFF).operation = .read .cpy (.mem (.zp 0xFF)) := by decide

theorem witness_IncrementsAndDecrements :
    Instr.incAcc.operation = .accumulator .inc ∧ Instr.decAcc.operation = .accumulator .dec ∧
      Instr.inx.operation = .register .inx ∧ Instr.iny.operation = .register .iny ∧
      Instr.dex.operation = .register .dex ∧ Instr.dey.operation = .register .dey ∧
      (Instr.incZp 0x10).operation = .modify .inc (.zp 0x10) ∧ (Instr.decZp 0x10).operation = .modify .dec (.zp 0x10) ∧
      (0xEB : Byte).toNat = ((readTarget (.zp 0x10) plain).m.toNat + 1) % 256 ∧
      (0xE9 : Byte).toNat = ((readTarget (.zp 0x10) plain).m.toNat + 255) % 256 ∧
      plain.writable (effectiveAddress (.zp 0x10) plain).1 = true := by decide

theorem witness_ShiftsOfTheAccumulator :
    Instr.aslAcc.operation = .accumulator .asl ∧ Instr.lsrAcc.operation = .accumulator .lsr ∧
      Instr.rolAcc.operation = .accumulator .rol ∧ Instr.rorAcc.operation = .accumulator .ror ∧
      AccOp.ror ≠ .inc ∧ AccOp.ror ≠ .dec := by decide

theorem witness_ShiftsOfMemory :
    (Instr.aslZp 0x00).operation = .modify .asl (.zp 0x00) ∧ (Instr.lsrZp 0x00).operation = .modify .lsr (.zp 0x00) ∧
      (Instr.rolAbs 0x7FFF).operation = .modify .rol (.abs 0x7FFF) ∧
      (Instr.rorAbsX 0x7FFF).operation = .modify .ror (.absX 0x7FFF) ∧
      plain.writable (effectiveAddress (.zp 0x00) plain).1 = true ∧
      plain.writable (effectiveAddress (.absX 0x7FFF) plain).1 = true := by decide

theorem witness_LogicalOperations :
    (Instr.andImm 0x3C).operation = .read .and (.imm 0x3C) ∧ (Instr.oraImm 0x0F).operation = .read .ora (.imm 0x0F) ∧
      (Instr.eorZp 0x10).operation = .read .eor (.mem (.zp 0x10)) := by decide

theorem witness_BitTest :
    (Instr.bitImm 0xC0).operation = .read .bit (.imm 0xC0) ∧ (Instr.bitZp 0x10).operation = .read .bit (.mem (.zp 0x10)) := by
  decide

theorem witness_TestAndModifyBits :
    (Instr.trbZp 0x40).operation = .modify .trb (.zp 0x40) ∧
      (0xEA : Byte) = (readTarget (.zp 0x40) plain).m &&& ~~~plain.a ∧
      (Instr.tsbZp 0x40).operation = .modify .tsb (.zp 0x40) ∧
      (0xEA : Byte) = (readTarget (.zp 0x40) plain).m ||| plain.a ∧
      plain.writable (effectiveAddress (.zp 0x40) plain).1 = true := by decide

theorem witness_ResetAndSetMemoryBit :
    (Instr.rmb0 0x00).operation = .modify (if false then .smb 0 else .rmb 0) (.zp 0x00) ∧
      (Instr.smb7 0xFF).operation = .modify (if true then .smb 7 else .rmb 7) (.zp 0xFF) ∧
      plain.writable (zext 0x00) = true ∧ plain.writable (zext 0xFF) = true := by decide

theorem witness_PushAndPull :
    plain.writable (stackAddr plain.s) = true ∧ machineM3.writable (stackAddr machineM3.s) = false ∧ plain.memoryWf ∧
      plain.isRam (stackAddr plain.s) ∧
      plain.push 0x5A = .go ((plain.stored (stackAddr plain.s) 0x5A).withS (plain.s - 1)) :=
  ⟨by decide, by decide, wf_plain, ram_stack, State.push_of_writable _ (by decide)⟩

theorem witness_Pushes :
    Instr.pha.operation = .push .pha ∧ Instr.phx.operation = .push .phx ∧ Instr.phy.operation = .push .phy ∧
      Instr.php.operation = .push .php ∧ plain.writable (stackAddr plain.s) = true := by decide

theorem witness_Pulls :
    Instr.pla.operation = .pull .pla ∧ Instr.plx.operation = .pull .plx ∧ Instr.ply.operation = .pull .ply ∧
      Instr.plp.operation = .pull .plp ∧ plain.peek (stackAddr (plain.s + 1)) = some 0xEA := by decide

/-- The targets where the clauses meet: 0xFFFF and 0x10000, 0 and -1. -/
theorem witness_SetPcClampsWrapsOrFaults :
    plain.cfg.pcOverflow = .clamp ∧ (0xFFFF : Int) < 0x10000 ∧ (0 : Int) ≤ 0xFFFF ∧ (0xFFFF : Int) ≤ 0xFFFF ∧
      (-1 : Int) < 0 ∧ { Config.standard with pcOverflow := .wrap }.pcOverflow = .wrap := by decide

theorem witness_RelativeBranches :
    (Instr.bne 0x80).operation = .branch .bne 0x80 ∧ branchTaken .bne plain = true ∧
      plain.pcFits ((plain.pc.toNat : Int) + 2 + s8 0x80) ∧ branchTaken .beq plain = false ∧
      (let s := { plain with pc := 0x0000 }
       branchTaken .bra s = true ∧ s.cfg.pcOverflow = .clamp ∧ (s.pc.toNat : Int) + 2 + s8 0x80 < 0) := by
  unfold State.pcFits; decide

/-- The byte read is 0xEA, so its bit 0 is reset; at address 0 a taken branch by -128 falls below 0. -/
theorem witness_BranchesOnABit :
    (Instr.bbr0 0x00 0x7F).operation = .branchBit 0 false 0x00 0x7F ∧
      (Instr.bbs0 0x00 0x80).operation = .branchBit 0 true 0x00 0x80 ∧
      (plain.memRead (zext 0x00)).1.getLsbD 0 = false ∧ (plain.memRead (zext 0x00)).1.getLsbD 0 ≠ true ∧
      plain.pcFits ((plain.pc.toNat : Int) + 3 + s8 0x7F) ∧
      (let s := { plain with pc := 0x0000 }
       (s.memRead (zext 0x00)).1.getLsbD 0 = false ∧ s.cfg.pcOverflow = .clamp ∧ (s.pc.toNat : Int) + 3 + s8 0x80 < 0) := by
  unfold State.pcFits; decide

theorem witness_Jumps :
    (Instr.jmpAbs 0xFFFF).operation = .jmp 0xFFFF ∧ (Instr.jmpAbsInd 0x10FF).operation = .jmpInd 0x10FF ∧
      plain.peek 0x10FF = some 0xEA ∧ plain.peek (0x10FF + 1) = some 0xEA ∧
      (Instr.jmpAbsIndX 0xFFFF).operation = .jmpIndX 0xFFFF ∧ plain.peek (0xFFFF + zext plain.x) = some 0xEA ∧
      plain.peek (0xFFFF + zext plain.x + 1) = some 0xEA := by decide

theorem witness_JsrCalls :
    (Instr.jsr 0x1234).operation = .jsr 0x1234 ∧ plain.writable (stackAddr plain.s) = true ∧
      plain.writable (stackAddr (plain.s - 1)) = true ∧ plain.memoryWf ∧ plain.isRam (stackAddr plain.s) ∧
      plain.isRam (stackAddr (plain.s - 1)) := ⟨rfl, by decide, by decide, wf_plain, ram_stack, ram_stack1⟩

theorem witness_RtsReturns :
    Instr.rts.operation = .rts ∧ plain.peek (stackAddr (plain.s + 1)) = some 0xEA ∧
      plain.peek (stackAddr (plain.s + 2)) = some 0xEA := by decide

theorem witness_RtsUndoesJsr :
    (Instr.jsr 0x8010).operation = .jsr 0x8010 ∧ Instr.rts.operation = .rts ∧ plain.memoryWf ∧
      plain.isRam (stackAddr plain.s) ∧ plain.isRam (stackAddr (plain.s - 1)) ∧ plain.pc.toNat + 3 ≤ 0xFFFF ∧
      exec (.jsr 0x8010) plain = .next (ran (.jsr 0x8010) plain) :=
  ⟨rfl, rfl, wf_plain, ram_stack, ram_stack1, by decide, exec_ran _ _⟩

theorem witness_RtiRestores :
    Instr.rti.operation = .rti ∧ plain.peek (stackAddr (plain.s + 1)) = some 0xEA ∧
      plain.peek (stackAddr (plain.s + 2)) = some 0xEA ∧ plain.peek (stackAddr (plain.s + 3)) = some 0xEA := by decide

def unmasked : State := withVectors (machine 0x20 [0x00, 0x07])

theorem witness_BrkTaken :
    (Instr.brk 0x07).operation = .brk 0x07 ∧ brkTaken unmasked = true ∧
      unmasked.writable (stackAddr unmasked.s) = true ∧ unmasked.writable (stackAddr (unmasked.s - 1)) = true ∧
      unmasked.writable (stackAddr (unmasked.s - 2)) = true ∧ unmasked.peek 0xFFFE = some 0x00 ∧
      unmasked.peek 0xFFFF = some 0x90 := by decide

theorem witness_BrkMasked :
    (Instr.brk 0x07).operation = .brk 0x07 ∧ plain.flag .i = true ∧ plain.cfg.brkMasked = .nop ∧
      { Config.standard with brkMasked := .halt }.brkMasked = .halt := by decide

theorem witness_WaiStpNop : Instr.wai.operation = .wai ∧ Instr.stp.operation = .stp ∧ Instr.nop.operation = .nop := by decide

theorem witness_FlagInstructions :
    Instr.clc.operation = .flag .clc ∧ Instr.sec.operation = .flag .sec ∧ Instr.cli.operation = .flag .cli ∧
      Instr.sei.operation = .flag .sei ∧ Instr.cld.operation = .flag .cld ∧ Instr.sed.operation = .flag .sed ∧
      Instr.clv.operation = .flag .clv ∧ plain.flag .u = true := by decide

theorem witness_ResetCommandSetsTheResetState :
    plain.noIo 0xFFFC ∧ plain.noIo 0xFFFD ∧ plain.peek 0xFFFC = some 0xEA ∧ plain.peek 0xFFFD = some 0xEA := by
  unfold State.noIo; decide

/-- An image of the whole array, one byte too large, and one of the wrong size for the 32K variant. -/
theorem witness_RomFlashPlacesTheImage :
    (let d := Device.blank { romAttr with capacity := 2 }
     d.wf Config.standard = true ∧ d.attr.capacity < [1, 2, (3 : Byte)].length ∧ [1, (2 : Byte)].length ≤ d.attr.capacity ∧
       (d.attr.rom32k = true → [1, (2 : Byte)].length = 32768)) ∧
    (let d := Device.blank { romAttr with rom32k := true }
     d.wf Config.standard = true ∧ [(1 : Byte)].length ≤ d.attr.capacity ∧ d.attr.rom32k = true ∧
       [(1 : Byte)].length ≠ 32768) := by decide

/-- A range larger than its device's array, a load that fails so, and one that succeeds. -/
theorem witness_RomFlashPlacesTheImage_load :
    (let d := Device.blank { ramAttr with endAddress := 0x00FF, capacity := 0x0100 }
     let r : AddressRange := ⟨0x0000, 0x7FFF, .ram⟩
     r ∈ Config.standard.ranges ∧ r.chip = d.attr.mappedIo ∧ d.attr.capacity < r.stop.toNat - r.start.toNat + 1) := by decide

theorem witness_RomFlashPlacesTheImage_loads :
    configure Config.standard [⟨Device.blank { romAttr with capacity := 1 }, none⟩] plain = .error .rangeExceedsCapacity ∧
      configure Config.standard (standardDevices.map fun d => ⟨d, none⟩) State.reset = .ok State.reset ∧
      (Device.blank ramAttr).selected (decodeAddress Config.standard.ranges 0x7FFF) = true := ⟨rfl, rfl, by decide⟩

/-- One Run for each end. -/
theorem witness_RunEndsOnlyAsListed :
    (plain.runCommand [[.cancel]]).1 = some .cancelled ∧
      ({ plain with breakpoints := [0x8001] }.runCommand [[], []]).1 = some .atBreakpoint ∧
      ({ plain with waiting := true }.runCommand [[]]).1 = some (.refused .stepWhileHalted) ∧
      ((machine 0x24 [0x02]).runCommand [[]]).1 = some (.faulted (some (.unknownOpcode 0x02 0x8000))) ∧
      ((machine 0x24 [0xDB]).runCommand [[]]).1 = some .stopped ∧ (unmasked.runCommand [[]]).1 = some .break := by decide

theorem witness_DecimalFlagMattersOnlyToAdcAndSbc :
    plain.flag .u = true ∧
      (∀ src, (Instr.cmpImm 0x10).operation ≠ .read .adc src ∧ (Instr.cmpImm 0x10).operation ≠ .read .sbc src) ∧
      (Instr.cmpImm 0x10).operation ≠ .push .php ∧ (∀ sig, (Instr.cmpImm 0x10).operation ≠ .brk sig) :=
  ⟨by decide, fun _ => ⟨by simp [Instr.operation], by simp [Instr.operation]⟩, by decide, fun _ => by simp [Instr.operation]⟩

end Sys2Proof.Tests
end

section
/-! Proofs about `Push` and `Pull` (R20, R268), from the laws of the bus and the stack. -/

namespace Sys2Proof.Machine

/-- A refused push is the refused Write at the stack slot, and S stays (R20, R500). -/
theorem State.push_refused_eq_memWrite {st : State} (v : Byte) (h : st.writable (stackAddr st.s) = false) :
    st.push v = st.memWrite (stackAddr st.s) v := by
  rw [State.push_of_not_writable v h, State.memWrite_of_not_writable v h]

/-- A push into RAM leaves S one below its slot, and the slot holds the byte. -/
theorem State.peek_slot_of_push {st t : State} {v : Byte} (hwf : st.memoryWf) (hram : st.isRam (stackAddr st.s))
    (h : st.push v = .go t) : t.s + 1 = st.s ∧ t.peek (stackAddr st.s) = some v := by
  rw [State.push_of_writable v (State.writable_of_isRam hram), Flow.go.injEq] at h
  subst h
  exact ⟨by simp, by simpa using State.stored_peek_same v hwf hram⟩

end Sys2Proof.Machine

namespace Sys2Proof

open Sys2Proof.Machine

/-- Settles O42: each push is the Write at the stack slot by `push_of_writable` and its refused counterpart, and a pull
after a push into RAM reads the slot that the push left. -/
theorem pushAndPull : Obligations.PushAndPull := by
  unfold Obligations.PushAndPull
  refine ⟨fun s v => ⟨s.spAddr_eq, stackAddr_toNat s.s, fun hw => ?_, fun hw => ?_, rfl⟩, fun s t v hwf hram h => ?_⟩
  · exact ⟨_, State.memWrite_of_writable v hw, State.push_of_writable v hw⟩
  · have hwrite := State.memWrite_of_not_writable v hw
    exact ⟨_, _, hwrite, (State.push_refused_eq_memWrite v hw).trans hwrite, State.stored_s _ v s⟩
  · obtain ⟨hs, hslot⟩ := State.peek_slot_of_push hwf hram h
    exact ⟨State.pull_of_peek (hs ▸ hslot), t.pull_s.trans hs, (t.pull_peek _).trans hslot⟩

end Sys2Proof
end

section
/-! Proofs about a bus address that no enabled device answers (R87, R88), from the laws of the device loops. -/

namespace Sys2Proof.Machine

/-- A device stays out of a transaction when it is disabled or its chip-select is not decoded (R80, R81, R87). -/
theorem Device.selected_eq_false_iff (d : Device) (decoded : List ChipSelect) :
    d.selected decoded = false ↔ (d.attr.enabled = true → d.attr.mappedIo ∉ decoded) := by
  simp [Device.selected]

section Unselected

variable {decoded : List ChipSelect} {ds : List Device} (unselected : ∀ d ∈ ds, d.selected decoded = false)
include unselected

/-- The Read loop leaves the datum alone where it meets no selected device. -/
theorem peekDevices_of_unselected (cfg : Config) (addr : Word) (data : Option Byte) :
    peekDevices cfg decoded addr data ds = data := by
  induction ds with
  | nil => rfl
  | cons d rest ih =>
    have unread : d.readsFor decoded = false := by simp [Device.readsFor, unselected d (by simp)]
    simp [peekDevices, unread, ih fun e he => unselected e (by simp [he])]

/-- No device is there to refuse a Write. -/
theorem writableBy_of_unselected : writableBy decoded ds = true :=
  List.all_eq_true.2 fun d hd => by simp [unselected d hd]

/-- The Write loop changes no device where it meets no selected one. -/
theorem writeDevices_of_unselected (cfg : Config) (addr : Word) (v : Byte) :
    writeDevices cfg decoded addr v ds = ds := by
  rw [writeDevices_of_writable cfg decoded addr v ds (writableBy_of_unselected unselected)]
  exact (List.map_congr_left fun d hd => by simp [unselected d hd]).trans (List.map_id ds)

end Unselected

section OpenBus

variable {st : State} {a : Word} (unselected : ∀ d ∈ st.devices, d.selected (decodeAddress st.cfg.ranges a) = false)
include unselected

/-- An address that no device answers reads the open bus. -/
theorem State.peek_of_unselected : st.peek a = some st.cfg.openBusValue :=
  peekDevices_of_unselected unselected st.cfg a _

theorem State.noIo_of_unselected : st.noIo a := fun d hd selected => by
  simp [unselected d hd] at selected

/-- A Write that no device answers is ignored but for its tick, and is no fault. -/
theorem State.memWrite_of_unselected (v : Byte) : st.memWrite a v = .go { st with ticks := st.ticks + 1 } := by
  rw [State.memWrite_of_writable v (writableBy_of_unselected unselected), State.stored,
    writeDevices_of_unselected unselected st.cfg a v]
  rfl

end OpenBus

end Sys2Proof.Machine

namespace Sys2Proof

open Sys2Proof.Machine

/-- Settles O23: with no device selected the loops of R80 and R81 meet nobody, so the read keeps its open-bus datum and
the write is not refused and stores nowhere. -/
theorem unmappedAddressesReadOpenBus : Obligations.UnmappedAddressesReadOpenBus := by
  unfold Obligations.UnmappedAddressesReadOpenBus
  refine ⟨fun s a v unanswered => ?_, rfl⟩
  have unselected : ∀ d ∈ s.devices, d.selected (decodeAddress s.cfg.ranges a) = false :=
    fun d hd => (d.selected_eq_false_iff _).2 (unanswered d hd)
  exact ⟨State.memRead_of_peek (State.peek_of_unselected unselected),
    State.memRead_of_noIo (State.noIo_of_unselected unselected), State.memWrite_of_unselected unselected v⟩

end Sys2Proof
end

section
/-! Proofs about the opcodes of the bit instructions (R124). -/

namespace Sys2Proof

/-- The opcode that R124 makes of its fields: bit 7, the bit number in bits 6..4, and the low digit. -/
def bitOpcode (upper : Bool) (n : Fin 8) (low : BitVec 4) : Byte := BitVec.ofBool upper ++ BitVec.ofNat 3 n ++ low

/-- The opcode that R124 gives the operations of BBRn, BBSn, RMBn and SMBn; it is silent on the others. -/
def Operation.bitOpcode? : Operation → Option Byte
  | .branchBit n want _ _ => some (bitOpcode want n 0xF)
  | .modify (.rmb n) (.zp _) => some (bitOpcode false n 0x7)
  | .modify (.smb n) (.zp _) => some (bitOpcode true n 0x7)
  | _ => none

theorem bitOpcode_digit (upper : Bool) (n : Fin 8) (low : BitVec 4) :
    (bitOpcode upper n low).extractLsb' 0 4 = low :=
  BitVec.extractLsb'_append_eq_right

theorem bitOpcode_number (upper : Bool) (n : Fin 8) (low : BitVec 4) :
    (bitOpcode upper n low).extractLsb' 4 3 = BitVec.ofNat 3 n := by
  rw [bitOpcode, BitVec.extractLsb'_append_eq_of_le (by decide)]
  exact BitVec.extractLsb'_append_eq_right

theorem bitOpcode_upper (upper : Bool) (n : Fin 8) (low : BitVec 4) :
    (bitOpcode upper n low).getLsbD 7 = upper := by
  rw [bitOpcode, BitVec.getLsbD_append, BitVec.getLsbD_append]
  simp

/-- Each row of the opcode map that R124 speaks of stands at the opcode that it gives. -/
theorem Instr.opcode_of_bitOpcode? {i : Instr} {opcode : Byte} (h : i.operation.bitOpcode? = some opcode) :
    i.opcode = opcode := by
  cases i <;> cases h <;> rfl

/-- The fields of a bit instruction's opcode read back from its bits. -/
theorem Instr.opcode_fields {i : Instr} {upper : Bool} {n : Fin 8} {low : BitVec 4}
    (h : i.operation.bitOpcode? = some (bitOpcode upper n low)) :
    i.opcode.extractLsb' 4 3 = BitVec.ofNat 3 n ∧ i.opcode.getLsbD 7 = upper ∧ i.opcode.extractLsb' 0 4 = low := by
  rw [Instr.opcode_of_bitOpcode? h]
  exact ⟨bitOpcode_number upper n low, bitOpcode_upper upper n low, bitOpcode_digit upper n low⟩

/-- Settles O4: each of the three classes of bit instruction has the opcode made of R124's fields, which its bits give
back. -/
theorem bitNumberStandsInTheOpcode : Obligations.BitNumberStandsInTheOpcode := by
  unfold Obligations.BitNumberStandsInTheOpcode
  exact fun _ _ _ _ _ => ⟨fun branch => Instr.opcode_fields (congrArg Operation.bitOpcode? branch),
    fun reset => Instr.opcode_fields (congrArg Operation.bitOpcode? reset),
    fun set => Instr.opcode_fields (congrArg Operation.bitOpcode? set)⟩

end Sys2Proof
end

section
/-! Proofs about a refused Step (R505, R520), from the choice at the start of a Step. -/

namespace Sys2Proof.Machine

theorem State.action_of_stopped {st : State} (h : st.stopped = true) : st.action = .refuse .stepWhileStopped := by
  simp [State.action, h]

theorem State.action_of_stp {st : State} (hstopped : st.stopped = false) (h : st.stp = true) :
    st.action = .refuse .stepWhileStp := by
  simp [State.action, hstopped, h]

theorem State.action_of_halted {st : State} (hstopped : st.stopped = false) (hstp : st.stp = false)
    (hhalted : st.halted = true) (hnmi : st.nmiServiceable = false) (hirq : st.irqServiceable = false)
    (hresumes : st.resumes = false) : st.action = .refuse .stepWhileHalted := by
  simp [State.action, hstopped, hstp, hhalted, hnmi, hirq, hresumes]

/-- The choice of R520 does not look at the published events. -/
@[simp] theorem State.publish_action (e : Event) (st : State) : (st.publish e).action = st.action := rfl

/-- Once the fetch has begun, a Step has a next state: the instruction's or the latched one of an untabulated byte. -/
theorem executeNext_eq_next (st : State) : ∃ t, executeNext st = .next t := by
  unfold executeNext
  split
  next i st' _ => exact ⟨_, exec_eq_next i st'⟩
  next opcode st' _ => exact ⟨_, Flow.outcome_eq _⟩

/-- A Step is refused by the choice of R520 alone, never by what it executes or services. -/
theorem step_eq_refused_iff {st : State} {why : Refusal} : step st = .refused why ↔ st.action = .refuse why := by
  unfold step
  split
  next why' h => simp [h]
  next e h => simp [h, State.serviceInterrupt, Flow.outcome_eq]
  next h =>
    obtain ⟨t, ht⟩ := executeNext_eq_next (st.withWaiting false)
    simp [h, ht]

theorem State.stepCommand_of_refused {st : State} {why : Refusal} (h : step st = .refused why) :
    st.stepCommand = st.publish (.refused why st.pc) := by
  simp [State.stepCommand, h]

end Sys2Proof.Machine

namespace Sys2Proof

open Sys2Proof.Machine

/-- Settles O8: a Step is refused exactly where the choice of R520 refuses it, and that choice is the same after the
error event. -/
theorem refusedStepsChangeNothing : Obligations.RefusedStepsChangeNothing := by
  unfold Obligations.RefusedStepsChangeNothing
  refine ⟨fun s hstopped => ?stopped, fun s hstopped hstp => ?stp,
    fun s hstopped hstp hheld hnmi hmasked hbreak => ?halted, fun s why h => ?refused, rfl, rfl, rfl⟩
  case stopped => exact step_eq_refused_iff.2 (State.action_of_stopped hstopped)
  case stp => exact step_eq_refused_iff.2 (State.action_of_stp hstopped hstp)
  case halted =>
    have hhalted : s.halted = true := by simpa [State.halted] using hheld
    have hirq : s.irqServiceable = false := by simpa [State.irqServiceable] using hmasked
    have hresumes : s.resumes = false := by simpa [State.resumes] using fun _ irq _ => hbreak irq
    exact step_eq_refused_iff.2 (State.action_of_halted hstopped hstp hhalted hnmi hirq hresumes)
  case refused =>
    rw [State.stepCommand_of_refused h]
    exact ⟨rfl, step_eq_refused_iff.2 ((State.publish_action _ s).trans (step_eq_refused_iff.1 h))⟩

end Sys2Proof
end

section
/-! Proofs about the decoder and the encoder (R120 to R134), from the opcode map read cell by cell. -/

namespace Sys2Proof

open Sys2Proof.Machine

/-! ## What the decoder does with a tabulated opcode, one equation per format -/

section Formats

variable {bitOps : Bool} {opcode : Byte} {mnemonic : Mnemonic} {mode : Mode} (rest : List Byte)

theorem decode_f1 {i : Instr} (h : lookup bitOps opcode = some ⟨mnemonic, mode, .f1 i⟩) :
    decode bitOps (opcode :: rest) = .ok i rest := by
  rw [decode, h]; rfl

theorem decode_f2 {build : Byte → Instr} (op1 : Byte) (h : lookup bitOps opcode = some ⟨mnemonic, mode, .f2 build⟩) :
    decode bitOps (opcode :: op1 :: rest) = .ok (build op1) rest := by
  rw [decode, h]; rfl

theorem decode_f3 {build : Byte → Byte → Instr} (op1 op2 : Byte)
    (h : lookup bitOps opcode = some ⟨mnemonic, mode, .f3 build⟩) :
    decode bitOps (opcode :: op1 :: op2 :: rest) = .ok (build op1 op2) rest := by
  rw [decode, h]; rfl

/-- The absolute modes are F3 with a little-endian operand (R123). -/
theorem decode_absolute {build : Word → Instr} (a : Word)
    (h : lookup bitOps opcode = some ⟨mnemonic, mode, .absolute build⟩) :
    decode bitOps (opcode :: loByte a :: hiByte a :: rest) = .ok (build a) rest := by
  rw [decode_f3 rest _ _ h, wordOf_bytes]

end Formats

/-- With every opcode tabulated, each instruction is read back from its bytes: its row of the map has its format. -/
theorem decode_encode_of_bitOps (i : Instr) (rest : List Byte) : decode true (encode i ++ rest) = .ok i rest := by
  cases i with
  | php | aslAcc | clc | incAcc | plp | rolAcc | sec | decAcc | rti | pha | lsrAcc | cli | phy | rts | pla |
    rorAcc | sei | ply | dey | txa | tya | txs | tay | tax | clv | tsx | iny | dex | wai | cld | phx | stp | inx
    | nop | sed | plx => exact decode_f1 rest rfl
  | brk | oraZpIndX | tsbZp | oraZp | aslZp | rmb0 | oraImm | bpl | oraZpIndY | oraZpInd | trbZp | oraZpX |
    aslZpX | rmb1 | andZpIndX | bitZp | andZp | rolZp | rmb2 | andImm | bmi | andZpIndY | andZpInd | bitZpX |
    andZpX | rolZpX | rmb3 | eorZpIndX | eorZp | lsrZp | rmb4 | eorImm | bvc | eorZpIndY | eorZpInd | eorZpX |
    lsrZpX | rmb5 | adcZpIndX | stzZp | adcZp | rorZp | rmb6 | adcImm | bvs | adcZpIndY | adcZpInd | stzZpX |
    adcZpX | rorZpX | rmb7 | bra | staZpIndX | styZp | staZp | stxZp | smb0 | bitImm | bcc | staZpIndY |
    staZpInd | styZpX | staZpX | stxZpY | smb1 | ldyImm | ldaZpIndX | ldxImm | ldyZp | ldaZp | ldxZp | smb2 |
    ldaImm | bcs | ldaZpIndY | ldaZpInd | ldyZpX | ldaZpX | ldxZpY | smb3 | cpyImm | cmpZpIndX | cpyZp | cmpZp |
    decZp | smb4 | cmpImm | bne | cmpZpIndY | cmpZpInd | cmpZpX | decZpX | smb5 | cpxImm | sbcZpIndX | cpxZp |
    sbcZp | incZp | smb6 | sbcImm | beq | sbcZpIndY | sbcZpInd | sbcZpX | incZpX | smb7 => exact decode_f2 rest _ rfl
  | bbr0 | bbr1 | bbr2 | bbr3 | bbr4 | bbr5 | bbr6 | bbr7 | bbs0 | bbs1 | bbs2 | bbs3 | bbs4 | bbs5 | bbs6 |
    bbs7 => exact decode_f3 rest _ _ rfl
  | tsbAbs | oraAbs | aslAbs | oraAbsY | trbAbs | oraAbsX | aslAbsX | jsr | bitAbs | andAbs | rolAbs | andAbsY |
    bitAbsX | andAbsX | rolAbsX | jmpAbs | eorAbs | lsrAbs | eorAbsY | eorAbsX | lsrAbsX | jmpAbsInd | adcAbs |
    rorAbs | adcAbsY | jmpAbsIndX | adcAbsX | rorAbsX | styAbs | staAbs | stxAbs | staAbsY | stzAbs | staAbsX |
    stzAbsX | ldyAbs | ldaAbs | ldxAbs | ldaAbsY | ldyAbsX | ldaAbsX | ldxAbsY | cpyAbs | cmpAbs | decAbs |
    cmpAbsY | cmpAbsX | decAbsX | cpxAbs | sbcAbs | incAbs | sbcAbsY | sbcAbsX | incAbsX =>
    exact decode_absolute rest _ rfl

/-- What assembling a form gives is an instruction with the opcode and those operand bytes. -/
theorem Form.Encodes.of_assemble {opcode : Byte} {bit : Bool} {form : Form} {tail rest : List Byte} {i : Instr}
    (henc : form.Encodes opcode bit) (h : form.assemble tail = .ok i rest) :
    encode i ++ rest = opcode :: tail ∧ i.isBitOp = bit := by
  match form, tail, h with
  | .f1 _, _, rfl => exact ⟨by rw [henc.1]; rfl, henc.2⟩
  | .f2 _, op1 :: _, rfl => exact ⟨by rw [(henc op1).1]; rfl, (henc op1).2⟩
  | .f3 _, op1 :: op2 :: _, rfl => exact ⟨by rw [(henc op1 op2).1]; rfl, (henc op1 op2).2⟩

/-- A decoded instruction stands in the map at its first byte, which `lookup` finds. -/
theorem decode_eq_ok {bitOps : Bool} {bytes rest : List Byte} {i : Instr} (h : decode bitOps bytes = .ok i rest) :
    ∃ opcode tail d, bytes = opcode :: tail ∧ lookup bitOps opcode = some d ∧ d.form.assemble tail = .ok i rest := by
  unfold decode at h
  split at h
  next => cases h
  next opcode tail =>
    split at h
    next => cases h
    next d hd => exact ⟨opcode, tail, d, rfl, hd, h⟩

/-- Taking the bit instructions out of the map takes nothing else out of it (R12, R134). -/
theorem lookup_of_lookup_true {bitOps : Bool} {opcode : Byte} {d : Descriptor} (h : lookup true opcode = some d)
    (tabulated : d.mnemonic.isBitOp = true → bitOps = true) : lookup bitOps opcode = some d := by
  unfold lookup at h ⊢
  split at h
  next => cases h
  next e he =>
    obtain rfl : e = d := by simpa using h
    cases bitOps <;> simp_all

/-- Settles O2: the map's cell at the first byte builds instructions with those bytes, and is a bit instruction's only
where those are tabulated. -/
theorem decodedBytesAreTheEncoding : Obligations.DecodedBytesAreTheEncoding := by
  unfold Obligations.DecodedBytesAreTheEncoding
  intro cfg bytes i rest h
  obtain ⟨opcode, tail, d, rfl, hd, hform⟩ := decode_eq_ok h
  obtain ⟨henc, tabulated⟩ := lookup_placed hd
  obtain ⟨hbytes, hbit⟩ := henc.of_assemble hform
  refine ⟨hbytes, ?_⟩
  cases hb : d.mnemonic.isBitOp with
  | false => simp [Instr.wellFormed, hbit, hb]
  | true => simp [Instr.wellFormed, tabulated hb]

/-- Settles O1: an instruction is read back with every opcode tabulated, and a well-formed one needs no cell of the map
that the configuration takes out. -/
theorem decodeOfEncodeIsTheInstruction : Obligations.DecodeOfEncodeIsTheInstruction := by
  unfold Obligations.DecodeOfEncodeIsTheInstruction
  intro cfg i rest wf
  obtain ⟨opcode, tail, d, hbytes, hd, hform⟩ := decode_eq_ok (decode_encode_of_bitOps i rest)
  have hbit : i.isBitOp = d.mnemonic.isBitOp := ((lookup_placed hd).1.of_assemble hform).2
  have found : lookup cfg.rockwellBitOps opcode = some d := by
    apply lookup_of_lookup_true hd
    intro hb
    simpa [Instr.wellFormed, hbit, hb] using wf
  rw [hbytes, decode, found]
  exact hform

/-- Settles O3: the eleven words and the untabulated one are decoded by evaluation. -/
theorem sampleWordsDecodeAsTheMapSays : Obligations.SampleWordsDecodeAsTheMapSays := by
  unfold Obligations.SampleWordsDecodeAsTheMapSays
  decide

end Sys2Proof
end

section
/-! Proofs about what every Step and every host command keeps (R43, R47, R54, R90, R506, R541, R542). -/

namespace Sys2Proof.Machine

open Sys2Proof.Spec

/-! ## From what an operation writes to what it keeps -/

/-- The exception entry `e` keeps what pushes and its own flag writes keep. -/
theorem Stable.takeException {P : State → Prop} (hP : Stable P) (hS : ∀ v st, P st → P (State.withS v st)) {e : Entry}
    (hB : ∀ st, P st → P (e.markBreak st)) (hM : ∀ st, P st → P (e.mask st)) (st : State) (h : P st) :
    P (st.takeException e).final :=
  Flow.Has.final hP ((hP.pushWord hS _ _ h).andThen fun st h =>
    (hP.push hS _ _ (hB st h)).andThen fun st h => hP.setPC _ _ (hP.read16 _ _ (hM st h)))

/-- The property survives writes of P, and of each register and latch that R31 to R34, R48 and R49 list for the
operation. -/
structure Survives (o : Operation) (P : State → Prop) : Prop where
  a : writesA o = true → ∀ v st, P st → P (State.withA v st)
  x : writesX o = true → ∀ v st, P st → P (State.withX v st)
  y : writesY o = true → ∀ v st, P st → P (State.withY v st)
  s : writesS o = true → ∀ v st, P st → P (State.withS v st)
  p : ∀ v st, P st → P (State.withP v st)
  waiting : o = .wai → ∀ v st, P st → P (State.withWaiting v st)
  stp : o = .stp → ∀ v st, P st → P (State.withStp v st)

/-- It survives the bus, PC writes and a latched fault, too. -/
structure Keeps (o : Operation) (P : State → Prop) : Prop extends Stable P, Survives o P

namespace Survives

variable {P : State → Prop}

theorem applyRead {op : ReadOp} {src : Source} (hP : Survives (.read op src) P) (m : Byte) (st : State) (h : P st) :
    P (applyRead op src m st) := by
  cases op with
  | lda | and | ora | eor | adc | sbc => exact hP.p _ _ (hP.a rfl _ _ h)
  | ldx => exact hP.p _ _ (hP.x rfl _ _ h)
  | ldy => exact hP.p _ _ (hP.y rfl _ _ h)
  | cmp | cpx | cpy | bit => exact hP.p _ _ h

theorem beforeWrite {op : ModifyOp} {dst : MemOperand} (hP : Survives (.modify op dst) P) (m : Byte) (st : State)
    (h : P st) : P (beforeWrite op m st) := by
  cases op with
  | asl | lsr | rol | ror | trb | tsb => exact hP.p _ _ h
  | inc | dec | rmb | smb => exact h

theorem afterWrite {op : ModifyOp} {dst : MemOperand} (hP : Survives (.modify op dst) P) (r : Byte) (st : State)
    (h : P st) : P (afterWrite op r st) := by
  cases op with
  | asl | lsr | rol | ror | inc | dec => exact hP.p _ _ h
  | trb | tsb | rmb | smb => exact h

theorem applyAcc {op : AccOp} (hP : Survives (.accumulator op) P) (st : State) (h : P st) : P (applyAcc op st) := by
  cases op with
  | asl | lsr | rol | ror => exact hP.p _ _ (hP.a rfl _ _ (hP.p _ _ h))
  | inc | dec => exact hP.p _ _ (hP.a rfl _ _ h)

theorem applyRegister {op : RegisterOp} (hP : Survives (.register op) P) (st : State) (h : P st) :
    P (applyRegister op st) := by
  cases op with
  | tax | tsx | inx | dex => exact hP.p _ _ (hP.x rfl _ _ h)
  | tay | iny | dey => exact hP.p _ _ (hP.y rfl _ _ h)
  | txa | tya => exact hP.p _ _ (hP.a rfl _ _ h)
  | txs => exact hP.s rfl _ _ h

theorem applyPull {op : PullOp} (hP : Survives (.pull op) P) (v : Byte) (st : State) (h : P st) :
    P (applyPull op v st) := by
  cases op with
  | pla => exact hP.p _ _ (hP.a rfl _ _ h)
  | plx => exact hP.p _ _ (hP.x rfl _ _ h)
  | ply => exact hP.p _ _ (hP.y rfl _ _ h)
  | plp => exact hP.p _ _ h

end Survives

namespace Keeps

variable {P : State → Prop}

theorem brk {sig : Byte} (hP : Keeps (.brk sig) P) (st : State) (h : P st) : P (brk st).final := by
  rw [brk_eq]
  split
  · exact hP.toStable.takeException (e := .brk) (hP.s rfl) (fun st h => hP.p _ _ h)
      (fun st h => hP.p _ _ (hP.p _ _ h)) st h
  · split
    · exact (hP.sequential _ _ (hP.p _ _ h)).final hP.toStable
    · exact (hP.sequential _ _ h).final hP.toStable

theorem keptBy {o : Operation} (hP : Keeps o P) : KeptBy P o := by
  cases o with
  | read op src => exact hP.applyRead
  | write | branch | branchBit | jmp | jmpInd | jmpIndX | nop => trivial
  | modify op dst => exact ⟨hP.beforeWrite, hP.afterWrite⟩
  | accumulator op => exact hP.applyAcc
  | register op => exact hP.applyRegister
  | flag op => exact fun st => hP.p _ st
  | push | jsr | rts => exact hP.s rfl
  | pull op => exact ⟨hP.s rfl, hP.applyPull⟩
  | rti => exact ⟨hP.s rfl, fun v => hP.p _⟩
  | brk sig => exact hP.brk
  | wai => exact hP.waiting rfl true
  | stp => exact hP.stp rfl true

theorem exec {i : Instr} (hP : Keeps i.operation P) {st t : State} (ht : exec i st = .next t) (h : P st) : P t := by
  rw [exec_eq_next, Host.Outcome.next.injEq] at ht
  exact ht ▸ perform_keeps hP.toStable i.opcode i.operation hP.keptBy st h

end Keeps

/-- The property survives every write of a register or a latch. -/
structure Kept (P : State → Prop) : Prop extends Stable P where
  a : ∀ v st, P st → P (State.withA v st)
  x : ∀ v st, P st → P (State.withX v st)
  y : ∀ v st, P st → P (State.withY v st)
  s : ∀ v st, P st → P (State.withS v st)
  p : ∀ v st, P st → P (State.withP v st)
  waiting : ∀ v st, P st → P (State.withWaiting v st)
  stp : ∀ v st, P st → P (State.withStp v st)
  nmi : ∀ v st, P st → P (State.withNmiPending v st)
  irq : ∀ v st, P st → P (State.withIrqPending v st)

namespace Kept

variable {P : State → Prop} (hP : Kept P)
include hP

theorem keeps (o : Operation) : Keeps o P where
  toStable := hP.toStable
  a _ := hP.a
  x _ := hP.x
  y _ := hP.y
  s _ := hP.s
  p := hP.p
  waiting _ := hP.waiting
  stp _ := hP.stp

theorem markBreak (e : Entry) (st : State) (h : P st) : P (e.markBreak st) := by
  cases e with
  | brk => exact hP.p _ _ h
  | irq | nmi => exact h

theorem mask (e : Entry) (st : State) (h : P st) : P (e.mask st) := by
  cases e with
  | brk => exact hP.p _ _ (hP.p _ _ h)
  | irq | nmi => exact hP.waiting _ _ (hP.p _ _ (hP.p _ _ (hP.p _ _ h)))

theorem acknowledge (e : Entry) (st : State) (h : P st) : P (st.acknowledge e) := by
  cases e with
  | brk => exact h
  | irq => exact hP.irq _ _ h
  | nmi => exact hP.nmi _ _ h

end Kept

/-! ## What a Step can do -/

theorem Stable.fetchOperands {P : State → Prop} (hP : Stable P) (f : Form) (st : State) (h : P st) :
    ∃ i st', fetchOperands f st = .instr i st' ∧ P st' := by
  cases f with
  | f1 i => exact ⟨i, st, rfl, h⟩
  | f2 build => exact ⟨_, _, rfl, hP.read _ _ h⟩
  | f3 build => exact ⟨_, _, rfl, hP.read _ _ (hP.read _ _ h)⟩

/-- The execute phase runs an instruction, or latches an untabulated byte, in a state that only its fetches separate
from the start (R502, R520). -/
theorem executeNext_cases {P : State → Prop} (hP : Stable P) (st : State) (h : P st) :
    ∃ st', P st' ∧ ((∃ i, executeNext st = exec i st') ∨
      ∃ opcode, executeNext st = .next (st'.latch (.unknownOpcode opcode st'.pc))) := by
  unfold executeNext State.fetch
  dsimp only
  split
  next i st' hf =>
    split at hf
    next => cases hf
    next d hd =>
      obtain ⟨j, u, hu, hPu⟩ := hP.fetchOperands d.form _ (hP.read st.pc st h)
      rw [hu] at hf
      cases hf
      exact ⟨_, hPu, .inl ⟨_, rfl⟩⟩
  next opcode st' hf =>
    split at hf
    next => cases hf; exact ⟨_, hP.read _ _ h, .inr ⟨_, rfl⟩⟩
    next d hd =>
      obtain ⟨j, u, hu, hPu⟩ := hP.fetchOperands d.form _ (hP.read st.pc st h)
      rw [hu] at hf
      cases hf

/-- A Step that answers a next state has serviced an interrupt or executed (R520). -/
theorem step_eq_next {s t : State} (h : step s = .next t) :
    (∃ e, s.action = .service e ∧ ((s.acknowledge e).takeException e).final = t) ∨
      (s.action = .execute ∧ executeNext (s.withWaiting false) = .next t) := by
  unfold step at h
  split at h
  next => cases h
  next e he => exact .inl ⟨e, he, by simpa [State.serviceInterrupt, Flow.outcome_eq] using h⟩
  next he => exact .inr ⟨he, h⟩

/-- What every register write keeps, every Step keeps. -/
theorem Kept.step {P : State → Prop} (hP : Kept P) {s t : State} (ht : step s = .next t) (h : P s) : P t := by
  obtain ⟨e, -, rfl⟩ | ⟨-, ht⟩ := step_eq_next ht
  · exact hP.toStable.takeException hP.s (hP.markBreak e) (hP.mask e) _ (hP.acknowledge e s h)
  · obtain ⟨u, hu, ⟨i, hi⟩ | ⟨opcode, hlatch⟩⟩ := executeNext_cases hP.toStable _ (hP.waiting false s h)
    · exact (hP.keeps i.operation).exec (hi.symm.trans ht) hu
    · rw [hlatch, Host.Outcome.next.injEq] at ht
      exact ht ▸ hP.latch _ u hu

/-! ## The parts of the invariant -/

/-- The register writes but for P at once. -/
theorem Kept.of_registers {P : State → Prop}
    (registers : ∀ a x y s pc waiting stp nmiPending irqPending (st : State), P st →
      P { st with a, x, y, s, pc, waiting, stp, nmiPending, irqPending })
    (p : ∀ v st, P st → P (State.withP v st)) (read : ∀ a st, P st → P (st.memRead a).2)
    (stored : ∀ a v st, P st → P (st.stored a v)) (latch : ∀ r st, P st → P (st.latch r)) : Kept P where
  read := read
  stored := stored
  latch := latch
  p := p
  pc v st := registers st.a st.x st.y st.s v st.waiting st.stp st.nmiPending st.irqPending st
  a v st := registers v st.x st.y st.s st.pc st.waiting st.stp st.nmiPending st.irqPending st
  x v st := registers st.a v st.y st.s st.pc st.waiting st.stp st.nmiPending st.irqPending st
  y v st := registers st.a st.x v st.s st.pc st.waiting st.stp st.nmiPending st.irqPending st
  s v st := registers st.a st.x st.y v st.pc st.waiting st.stp st.nmiPending st.irqPending st
  waiting v st := registers st.a st.x st.y st.s st.pc v st.stp st.nmiPending st.irqPending st
  stp v st := registers st.a st.x st.y st.s st.pc st.waiting v st.nmiPending st.irqPending st
  nmi v st := registers st.a st.x st.y st.s st.pc st.waiting st.stp v st.irqPending st
  irq v st := registers st.a st.x st.y st.s st.pc st.waiting st.stp st.nmiPending v st

/-- U is hardwired (R43). -/
theorem Kept.unusedBitSet : Kept State.unusedBitSet := by
  refine .of_registers (fun _ _ _ _ _ _ _ _ _ _ h => h) (fun v st _ => ?_) (fun a st h => ?_) (fun a v st h => ?_)
    fun _ _ h => h
  · simp [State.unusedBitSet, State.flag_withP]
  · simpa [State.unusedBitSet] using h
  · simpa [State.unusedBitSet] using h

theorem Kept.memoryWf : Kept State.memoryWf :=
  .of_registers (fun _ _ _ _ _ _ _ _ _ _ h => h) (fun _ _ h => h) Stable.memoryWf.read Stable.memoryWf.stored
    Stable.memoryWf.latch

/-- A recorded reason goes with `stopped`; a latched fault writes both (R47, R500). -/
theorem Kept.reasonWhileStopped : Kept State.reasonWhileStopped := by
  refine .of_registers (fun _ _ _ _ _ _ _ _ _ _ h => h) (fun _ _ h => h) (fun a st h => ?_) (fun a v st h => ?_)
    fun _ _ _ => rfl
  · simpa [State.reasonWhileStopped] using h
  · simpa [State.reasonWhileStopped] using h

theorem Kept.breakpoints (l : List Word) : Kept fun st => st.breakpoints = l :=
  .of_registers (fun _ _ _ _ _ _ _ _ _ _ h => h) (fun _ _ h => h) (by simp) (by simp) fun _ _ h => h

theorem Kept.runMode (m : RunMode) : Kept fun st => st.runMode = m :=
  .of_registers (fun _ _ _ _ _ _ _ _ _ _ h => h) (fun _ _ h => h) (by simp) (by simp) fun _ _ h => h

/-- The parameters and the devices' attributes (R55, R90). -/
theorem Kept.sameBus (s : State) : Kept s.SameBus :=
  .of_registers (fun _ _ _ _ _ _ _ _ _ _ h => h) (fun _ _ h => h) (fun a _ h => h.trans (State.memRead_sameBus a _))
    (fun a v _ h => h.trans (State.stored_sameBus a v _)) fun _ _ h => h

/-! ## Flags -/

theorem Stable.flag (f : Flag) (on : Bool) : Stable fun st => st.flag f = on where
  read a st h := by simpa using h
  stored a v st h := by simpa using h
  pc _ _ h := h
  latch _ _ h := h

/-- The flags are those of the status byte. -/
theorem State.getFlag_p (f : Flag) (st : State) : getFlag f st.p = st.flag f := rfl

/-- The flags that R38 to R45 do not list for an operation it leaves alone; U, which is hardwired, apart. -/
theorem flag_keptBy {o : Operation} {f : Flag} (hf : f ≠ .u) (h : writesFlag o f = false) (on : Bool) :
    KeptBy (fun st => st.flag f = on) o := by
  cases o with
  | write | branch | branchBit | jmp | jmpInd | jmpIndX | nop => trivial
  | push | jsr | rts => exact fun v st hst => hst
  | wai | stp => exact fun st hst => hst
  | rti => simp [writesFlag, hf] at h
  | read op src =>
    intro m st hst
    cases op with
    | bit =>
      cases src <;> simp [writesFlag, readWritesFlag] at h <;>
        simpa [applyRead, bitStatus, State.flag_withP, getFlag_statusBitTest, getFlag_statusBitMemory,
          State.getFlag_p, hf, h] using hst
    | _ =>
      simp [writesFlag, readWritesFlag] at h
      simpa [applyRead, State.flag_setNZ, State.flag_withAlu, State.flag_compare, hf, h] using hst
  | modify op dst =>
    constructor <;> intro m st hst <;> cases op <;> simp [writesFlag, modifyWritesFlag] at h <;>
      simpa [beforeWrite, afterWrite, State.flag_withFlag, State.flag_withP, State.flag_setNZ, getFlag_statusBitTest,
        State.getFlag_p, hf, h] using hst
  | accumulator op =>
    intro st hst
    cases op <;> simp [writesFlag, accWritesFlag] at h <;>
      simpa [applyAcc, State.flag_setNZ, State.flag_withFlag, hf, h] using hst
  | register op =>
    intro st hst
    cases op <;> simp [writesFlag] at h <;> simpa [applyRegister, State.flag_setNZ, hf, h] using hst
  | flag op =>
    intro st hst
    cases op <;> simp [writesFlag, flagOpFlag] at h <;> simpa [flagWritten, State.flag_withFlag, hf, h] using hst
  | pull op =>
    refine ⟨fun v st hst => hst, fun v st hst => ?_⟩
    cases op <;> simp [writesFlag, hf] at h <;> simpa [applyPull, State.flag_setNZ, hf, h] using hst
  | brk sig =>
    intro st hst
    simp [writesFlag] at h
    have marked : ∀ u : State, u.flag f = on → (u.withFlag .b true).flag f = on := fun u hu => by
      simpa [State.flag_withFlag, hf, h] using hu
    rw [brk_eq]
    split
    · exact (Stable.flag f on).takeException (e := .brk) (fun _ _ hu => hu) marked
        (fun u hu => by simpa [Entry.mask, State.flag_withFlag, hf, h] using hu) st hst
    · split
      · exact ((Stable.flag f on).sequential _ _ (marked st hst)).final (Stable.flag f on)
      · exact ((Stable.flag f on).sequential _ _ hst).final (Stable.flag f on)

/-! ## Break-halt (R506): the one part that an instruction can break for a moment -/

/-- No fault, or one that has left its reason: what the machine's parts keep of `breakMasksIrq`. -/
theorem Stable.breakMasksIrq : Stable State.breakMasksIrq where
  read a st h := by simpa [State.breakMasksIrq] using h
  stored a v st h := by simpa [State.breakMasksIrq] using h
  pc _ _ h := h
  latch _ _ _ := by simp [State.breakMasksIrq]

theorem breakMasksIrq_of_breakClear {st : State} (h : st.flag .b = false) : st.breakMasksIrq := by
  simp [State.breakMasksIrq, h]

theorem breakMasksIrq_of_irqMasked {st : State} (h : st.flag .i = true) : st.breakMasksIrq := fun _ _ => h

/-- Both kinds of entry leave I set, wherever B stands. -/
theorem Entry.mask_irqMasked (e : Entry) (st : State) : (e.mask st).flag .i = true := by
  cases e <;> simp [Entry.mask, State.flag_withFlag]

/-- An entry ends with I set, or in the fault of a push; so BRK may set B before its last push. -/
theorem State.takeException_breakMasksIrq (e : Entry) (st : State) : (st.takeException e).final.breakMasksIrq := by
  have latched : ∀ r (u : State), (Flow.raised r u).final.breakMasksIrq := fun r u => by simp [State.breakMasksIrq]
  unfold State.takeException
  cases st.pushWord (e.returnAddress st) with
  | raised r u => exact latched r u
  | go u =>
    rw [Flow.andThen_go]
    cases (e.markBreak u).push (e.statusCopy (e.markBreak u).p) with
    | raised r v => exact latched r v
    | go v =>
      rw [Flow.andThen_go, State.jumpThrough_eq]
      exact breakMasksIrq_of_irqMasked (by simpa using e.mask_irqMasked v)

theorem brk_breakMasksIrq (st : State) (h : st.flag .b = false) : (brk st).final.breakMasksIrq := by
  rw [brk_eq]
  split
  · exact st.takeException_breakMasksIrq .brk
  · rename_i masked
    split
    · rw [State.sequential_eq]
      refine breakMasksIrq_of_irqMasked ?_
      simp only [Bool.or_eq_true, Bool.not_eq_true', not_or, Bool.not_eq_false] at masked
      simpa [State.flag_withFlag] using masked.1
    · rw [State.sequential_eq]
      exact breakMasksIrq_of_breakClear h

/-- Besides BRK, only PLP and RTI write B, and they clear it. -/
theorem writesFlag_b {o : Operation} (h : writesFlag o .b = true) :
    o = .pull .plp ∨ o = .rti ∨ ∃ sig, o = .brk sig := by
  cases o with
  | read op src => cases op <;> cases src <;> cases h
  | modify op dst => cases op <;> cases h
  | accumulator op | register op | flag op => cases op <;> cases h
  | pull op =>
    cases op with
    | plp => exact .inl rfl
    | pla | plx | ply => cases h
  | rti => exact .inr (.inl rfl)
  | brk sig => exact .inr (.inr ⟨sig, rfl⟩)
  | _ => cases h

theorem breakClear_keptBy {o : Operation} (h : ∀ sig, o ≠ .brk sig) : KeptBy (fun st => st.flag .b = false) o := by
  cases hw : writesFlag o .b with
  | false => exact flag_keptBy (by decide) hw false
  | true =>
    have cleared : ∀ v (st : State), (st.withP (pulledStatus v)).flag .b = false := fun v st => by
      simp [State.flag_withP, getFlag_pulledStatus]
    obtain rfl | rfl | ⟨sig, rfl⟩ := writesFlag_b hw
    · exact ⟨fun _ _ hb => hb, fun v st _ => cleared v st⟩
    · exact ⟨fun _ _ hb => hb, fun v st _ => cleared v st⟩
    · exact absurd rfl (h sig)

end Sys2Proof.Machine
end

section
/-! Proofs about the invariant over Steps and host commands, and about the configuration (R54, R90, R97, R542). -/

namespace Sys2Proof.Machine

/-! ## Steps -/

/-- The choice to execute, as one condition of R520. -/
theorem State.ready_iff {s : State} : s.ready ↔
    s.stopped = false ∧ s.stp = false ∧ s.nmiServiceable = false ∧ s.irqServiceable = false ∧
      (s.halted = false ∨ s.resumes = true) := by
  unfold State.ready State.action
  cases s.stopped <;> cases s.stp <;> cases s.nmiServiceable <;> cases s.irqServiceable <;> cases s.halted <;>
    cases s.resumes <;> decide

/-- A Step executes only outside break-halt, which nothing resumes (R506, R520). -/
theorem breakClear_of_ready {s : State} (h : s.ready) : s.flag .b = false := by
  obtain ⟨-, -, -, -, free | resuming⟩ := State.ready_iff.1 h
  · simp only [State.halted, Bool.or_eq_false_iff] at free
    exact free.1
  · simp only [State.resumes, Bool.and_eq_true, Bool.not_eq_true'] at resuming
    exact resuming.2

theorem exec_breakMasksIrq {i : Instr} {s t : State} (ht : exec i s = .next t) (hb : s.flag .b = false) :
    t.breakMasksIrq := by
  rw [exec_eq_next, Host.Outcome.next.injEq] at ht
  subst ht
  by_cases isBrk : ∃ sig, i.operation = .brk sig
  · obtain ⟨sig, h⟩ := isBrk
    rw [h]
    exact brk_breakMasksIrq s hb
  · exact breakMasksIrq_of_breakClear
      (perform_keeps (Stable.flag .b false) _ _ (breakClear_keptBy fun sig h => isBrk ⟨sig, h⟩) s hb)

/-- Whatever it starts from, a Step leaves an unfaulted break-halt with IRQ masked. -/
theorem step_breakMasksIrq {s t : State} (ht : step s = .next t) : t.breakMasksIrq := by
  obtain ⟨e, -, rfl⟩ | ⟨ready, ht⟩ := step_eq_next ht
  · exact State.takeException_breakMasksIrq e _
  · obtain ⟨u, hu, ⟨i, hi⟩ | ⟨opcode, hlatch⟩⟩ :=
      executeNext_cases (Stable.flag .b false) (s.withWaiting false) (breakClear_of_ready (s := s) ready)
    · exact exec_breakMasksIrq (hi.symm.trans ht) hu
    · rw [hlatch, Host.Outcome.next.injEq] at ht
      exact ht ▸ breakMasksIrq_of_breakClear hu

theorem State.Inv.step {s t : State} (h : s.Inv) (ht : step s = .next t) : t.Inv where
  unused := Kept.unusedBitSet.step ht h.unused
  memory := Kept.memoryWf.step ht h.memory
  breakHalt := step_breakMasksIrq ht
  reason := Kept.reasonWhileStopped.step ht h.reason
  sorted := by
    have same := (Kept.breakpoints s.breakpoints).step ht rfl
    rw [State.breakpointsSorted, same]
    exact h.sorted

/-! ## Host commands -/

/-- The invariant reads P, the devices with the parameters, `stopped` with its reason, and the breakpoints. -/
theorem State.Inv.congr {s t : State} (h : s.Inv) (hp : t.p = s.p) (hmem : s.memoryWf → t.memoryWf)
    (hstopped : t.stopped = s.stopped) (hreason : t.faultReason = s.faultReason)
    (hsorted : s.breakpointsSorted → t.breakpointsSorted) : t.Inv where
  unused := by simpa [State.unusedBitSet, State.flag, hp] using h.unused
  memory := hmem h.memory
  breakHalt := by simpa [State.breakMasksIrq, State.flag, hp, hstopped] using h.breakHalt
  reason := by simpa [State.reasonWhileStopped, hstopped, hreason] using h.reason
  sorted := hsorted h.sorted

theorem State.Inv.publish {s : State} (h : s.Inv) (e : Event) : (s.publish e).Inv := h.congr rfl id rfl rfl id

theorem State.Inv.latch {s : State} (h : s.Inv) (r : FaultReason) : (s.latch r).Inv where
  unused := h.unused
  memory := h.memory
  breakHalt := Stable.breakMasksIrq.latch r s h.breakHalt
  reason := rfl
  sorted := h.sorted

theorem State.Inv.cancel {s : State} (h : s.Inv) : s.cancel.Inv := h.congr rfl id rfl rfl id

theorem State.Inv.sendIrq {s : State} (h : s.Inv) : s.sendIrq.Inv := h.congr rfl id rfl rfl id

theorem State.Inv.sendNmi {s : State} (h : s.Inv) : s.sendNmi.Inv := h.congr rfl id rfl rfl id

theorem State.Inv.deviceStep {s : State} (h : s.Inv) (chip : ChipSelect) (choice : Nat) :
    (s.deviceStep chip choice).Inv :=
  h.congr rfl (State.deviceStep_memoryWf chip choice) rfl rfl id

theorem State.Inv.busRead {s : State} (h : s.Inv) (a : Word) : (s.busRead a).2.Inv :=
  h.congr (by simp) (State.busRead_memoryWf a) (by simp) (by simp) (by simp [State.breakpointsSorted])

/-- A poke is a Write transaction; a refused one latches its fault (R89). -/
theorem State.Inv.hostWrite {s : State} (h : s.Inv) (a : Word) (v : Byte) : (s.hostWrite a v).Inv := by
  have written : (s.withDevices (writeDevices s.cfg (decodeAddress s.cfg.ranges a) a v s.devices)).Inv :=
    h.congr rfl (writeDevices_wf _ _ _ _ _) rfl rfl id
  unfold State.hostWrite State.busWrite
  cases s.writable a with
  | true => exact written
  | false => exact written.latch _

theorem State.Inv.stepCommand {s : State} (h : s.Inv) : s.stepCommand.Inv := by
  unfold State.stepCommand
  split
  next t ht => exact h.step ht
  next => exact h.publish _
  next => exact h.publish _

theorem insertBreakpoint_mem {a b : Word} {l : List Word} : b ∈ insertBreakpoint a l → b = a ∨ b ∈ l := by
  induction l with
  | nil => simp [insertBreakpoint]
  | cons c rest ih =>
    unfold insertBreakpoint
    split
    · simp
    · split
      · exact .inr
      · simp only [List.mem_cons]
        rintro (h | h)
        · exact .inr (.inl h)
        · exact (ih h).imp_right .inr

theorem insertBreakpoint_sorted (a : Word) {l : List Word} (h : l.Pairwise (· < ·)) :
    (insertBreakpoint a l).Pairwise (· < ·) := by
  induction l with
  | nil => simp [insertBreakpoint]
  | cons c rest ih =>
    obtain ⟨below, hrest⟩ := List.pairwise_cons.1 h
    unfold insertBreakpoint
    split
    · rename_i hac
      refine List.pairwise_cons.2 ⟨fun b hb => ?_, h⟩
      rcases List.mem_cons.1 hb with rfl | hb
      · exact hac
      · exact BitVec.lt_trans hac (below b hb)
    · split
      · exact h
      · rename_i hac hne
        refine List.pairwise_cons.2 ⟨fun b hb => ?_, ih hrest⟩
        rcases insertBreakpoint_mem hb with rfl | hb
        · exact BitVec.lt_of_le_ne (BitVec.not_lt.1 hac) (Ne.symm hne)
        · exact below b hb

theorem State.Inv.addBreakpoint {s : State} (h : s.Inv) (a : Word) : (s.addBreakpoint a).Inv :=
  h.congr rfl id rfl rfl (insertBreakpoint_sorted a)

theorem State.Inv.removeBreakpoint {s : State} (h : s.Inv) (a : Word) : (s.removeBreakpoint a).Inv :=
  h.congr rfl id rfl rfl (List.Pairwise.filter _)

/-- The status byte of R560, flag by flag. -/
theorem getFlag_resetStatus (f : Flag) (r : ResetRegs) :
    getFlag f (resetStatus r) =
      match f with
      | .n => r.n
      | .v => r.v
      | .z => r.z
      | .c => r.c
      | .i | .u => true
      | .d | .b => false := by
  have or_ite : ∀ (p m : Byte) (c : Bool),
      getFlag f (p ||| (if c then m else 0)) = (getFlag f p || (c && getFlag f m)) := by
    intro p m c
    cases c <;> simp [getFlag]
  rw [resetStatus, or_ite, or_ite, or_ite, or_ite]
  cases f <;> simp [getFlag, Flag.bit]

/-- The registers of Reset meet the invariant over any canonical memory. -/
theorem State.resetRegisters_inv {s : State} (hmem : s.memoryWf) (hsorted : s.breakpointsSorted) :
    s.resetRegisters.Inv where
  unused := getFlag_resetStatus .u _
  memory := hmem
  breakHalt := breakMasksIrq_of_breakClear (getFlag_resetStatus .b _)
  reason := rfl
  sorted := hsorted

theorem State.Inv.hostReset {s : State} (h : s.Inv) : s.hostReset.Inv :=
  (((State.resetRegisters_inv h.memory h.sorted).busRead 0xFFFC).busRead 0xFFFD).congr rfl id rfl rfl id

theorem State.Inv.asynchronous {s : State} (h : s.Inv) (e : Asynchronous) : (e.apply s).Inv := by
  cases e with
  | cancel => exact h.cancel
  | sendIrq | deviceIrq => exact h.sendIrq
  | sendNmi => exact h.sendNmi
  | deviceStep chip choice => exact h.deviceStep chip choice

theorem State.Inv.foldl_asynchronous {s : State} (h : s.Inv) (now : List Asynchronous) :
    (now.foldl (fun st e => e.apply st) s).Inv := by
  induction now generalizing s with
  | nil => exact h
  | cons e rest ih => exact ih (h.asynchronous e)

theorem State.Inv.runLoop {s : State} (h : s.Inv) (env : List (List Asynchronous)) (first : Bool) :
    (runLoop env first s).2.Inv := by
  induction env generalizing s first with
  | nil => exact h
  | cons now later ih =>
    have hnow := h.foldl_asynchronous now
    unfold Machine.runLoop
    dsimp only
    split
    · exact hnow
    · split
      · exact hnow.publish _
      · split
        next => exact hnow.publish _
        next => exact hnow.publish _
        next t ht =>
          split
          · exact hnow.step ht
          · exact ih (hnow.step ht) false

theorem State.Inv.runCommand {s : State} (h : s.Inv) (env : List (List Asynchronous)) : (s.runCommand env).2.Inv :=
  State.Inv.runLoop (s := { s with runMode := .run }) (h.congr rfl id rfl rfl id) env true

/-! ## The configuration -/

/-- R78 reads a device's attributes alone. -/
theorem chipsDistinct_congr {ds es : List Device} (h : ds.map (·.attr) = es.map (·.attr)) :
    chipsDistinct ds = chipsDistinct es := by
  induction ds generalizing es with
  | nil => rw [List.map_eq_nil_iff.1 h.symm]
  | cons d rest ih =>
    cases es with
    | nil => cases h
    | cons e more =>
      rw [List.map_cons, List.map_cons, List.cons.injEq] at h
      obtain ⟨hd, hrest⟩ := h
      have all_eq : ∀ l : List Device, l.all (fun b => decide (d.attr.mappedIo ≠ b.attr.mappedIo)) =
          (l.map (·.attr)).all fun x => decide (d.attr.mappedIo ≠ x.mappedIo) := fun l => by
        rw [List.all_map]; rfl
      rw [chipsDistinct, chipsDistinct, ih hrest, all_eq, hrest, ← all_eq, hd]

theorem mapWf_congr (ranges : List AddressRange) {ds es : List Device} (h : ds.map (·.attr) = es.map (·.attr)) :
    mapWf ranges ds = mapWf ranges es := by
  have fits_eq : ∀ l : List Device, l.all (deviceFits ranges) =
      (l.map (·.attr)).all fun x => deviceFits ranges (Device.blank x) := fun l => by rw [List.all_map]; rfl
  rw [mapWf, mapWf, chipsDistinct_congr h, fits_eq, h, ← fits_eq]

theorem State.SameBus.mapWellFormed {s t : State} (h : s.SameBus t) : t.mapWellFormed = s.mapWellFormed := by
  unfold State.mapWellFormed
  rw [h.1]
  exact mapWf_congr _ h.2

end Sys2Proof.Machine

namespace Sys2Proof

open Sys2Proof.Machine

/-- Settles O12: break-halt is masked after any Step, and the other parts survive every register write. -/
theorem stepKeepsTheInvariant : Obligations.StepKeepsTheInvariant := by
  unfold Obligations.StepKeepsTheInvariant
  exact fun _ _ h ht => h.step ht

/-- Settles O13: command by command, a Run by induction on what happens between its iterations. -/
theorem everyHostCommandKeepsTheInvariant : Obligations.EveryHostCommandKeepsTheInvariant := by
  unfold Obligations.EveryHostCommandKeepsTheInvariant
  intro c s h
  cases c with
  | reset => exact h.hostReset
  | step => exact h.stepCommand
  | run env => exact h.runCommand env
  | cancel => exact h.cancel
  | sendIrq | deviceIrq => exact h.sendIrq
  | sendNmi => exact h.sendNmi
  | deviceStep chip choice => exact h.deviceStep chip choice
  | readMemory a => exact h.busRead a
  | writeMemory a v => exact h.hostWrite a v
  | addBreakpoint a => exact h.addBreakpoint a
  | removeBreakpoint a => exact h.removeBreakpoint a

/-- Settles O14: the configuration is among what every register write keeps, and a device agent's step is a change of
its own device's history. -/
theorem stepsNeverChangeTheConfiguration : Obligations.StepsNeverChangeTheConfiguration := by
  unfold Obligations.StepsNeverChangeTheConfiguration
  refine ⟨fun s t ht => ?_, fun s chip choice => ?_⟩
  · have bus : s.SameBus t := (Kept.sameBus s).step ht (.refl s)
    exact ⟨bus.1, bus.2, (Kept.breakpoints _).step ht rfl, (Kept.runMode _).step ht rfl, bus.mapWellFormed⟩
  · refine ⟨rfl, (s.deviceStep_sameBus chip choice).2, fun a => s.deviceStep_peek chip choice a, ?_, rfl⟩
    intro k d hd other
    simp [State.deviceStep_eq, hd, Device.ownStep_of_other choice other]

/-- Settles O11: the reset state is Reset's registers over a blank bus. -/
theorem resetSatisfiesTheInvariant : Obligations.ResetSatisfiesTheInvariant := by
  unfold Obligations.ResetSatisfiesTheInvariant
  have memory : State.reset.memoryWf := by unfold State.memoryWf; decide
  exact (State.resetRegisters_inv memory List.Pairwise.nil).congr rfl id rfl rfl id

/-- Settles O9: `exec` answers a next state, and so do service and execution; what is left of a Step is its three
refusals. -/
theorem instructionsAlwaysAnswerANextState : Obligations.InstructionsAlwaysAnswerANextState := by
  unfold Obligations.InstructionsAlwaysAnswerANextState
  refine ⟨fun i s => ⟨_, exec_eq_next i s⟩, fun s e h => ?_, fun s why h => ?_⟩
  · unfold step at h
    split at h
    next => cases h
    next e' _ => simp [State.serviceInterrupt, Flow.outcome_eq] at h
    next =>
      obtain ⟨t, ht⟩ := executeNext_eq_next (s.withWaiting false)
      cases ht.symm.trans h
  · have refused := step_eq_refused_iff.1 h
    unfold State.action at refused
    split at refused
    · cases refused; exact .inl rfl
    · split at refused
      · cases refused; exact .inr (.inl rfl)
      · split at refused
        · cases refused; exact .inr (.inr rfl)
        · split at refused
          · cases refused
          · split at refused <;> cases refused

/-- Settles O7: the conditions of R520 for executing, with each one's definition read out. -/
theorem readyExactlyWhenNothingHoldsTheStep : Obligations.ReadyExactlyWhenNothingHoldsTheStep := by
  unfold Obligations.ReadyExactlyWhenNothingHoldsTheStep
  intro s
  have masked : s.irqServiceable = false ↔ (s.irqPending = true → s.flag .i = true) := by
    simp [State.irqServiceable]
  have free : s.halted = false ↔ s.flag .b = false ∧ s.waiting = false := by simp [State.halted]
  have resuming : s.resumes = true ↔
      s.waiting = true ∧ s.irqPending = true ∧ s.flag .i = true ∧ s.flag .b = false := by
    simp [State.resumes, and_assoc]
  rw [State.ready_iff, masked, free, resuming, State.nmiServiceable]

end Sys2Proof
end

section
/-! Proofs about what the 212 instructions leave alone (R31 to R52, R95) and how many transactions they make (R581). -/

namespace Sys2Proof

/-- The length of an operation's instructions: 1, 2 or 3 by its operand (R120, R127). -/
def Operation.length : Operation → Nat
  | .read _ src => src.length
  | .write _ dst => dst.length
  | .modify _ dst => dst.length
  | .branch _ _ => 2
  | .brk _ => 2
  | .branchBit _ _ _ _ => 3
  | .jmp _ => 3
  | .jmpInd _ => 3
  | .jmpIndX _ => 3
  | .jsr _ => 3
  | .accumulator _ => 1
  | .register _ => 1
  | .flag _ => 1
  | .push _ => 1
  | .pull _ => 1
  | .rts => 1
  | .rti => 1
  | .wai => 1
  | .stp => 1
  | .nop => 1

theorem Instr.length_eq (i : Instr) : i.length = i.operation.length := by cases i <;> rfl

end Sys2Proof

namespace Sys2Proof.Machine

open Sys2Proof.Spec

/-! ## Registers and latches -/

/-- A field that the bus, PC writes, faults and writes of P leave alone, and that the operation's listed writes leave
alone, keeps its value. -/
theorem Keeps.of_frame {α : Type} {o : Operation} (φ : State → α) (c : α)
    (devices : ∀ v st, φ (State.withDevices v st) = φ st := by exact fun _ _ => rfl)
    (tick : ∀ st : State, φ st.tick = φ st := by exact fun _ => rfl)
    (pc : ∀ v st, φ (State.withPc v st) = φ st := by exact fun _ _ => rfl)
    (latch : ∀ r st, φ (State.latch r st) = φ st := by exact fun _ _ => rfl)
    (p : ∀ v st, φ (State.withP v st) = φ st := by exact fun _ _ => rfl)
    (a : writesA o = true → ∀ v st, φ (State.withA v st) = φ st := by exact fun _ _ _ => rfl)
    (x : writesX o = true → ∀ v st, φ (State.withX v st) = φ st := by exact fun _ _ _ => rfl)
    (y : writesY o = true → ∀ v st, φ (State.withY v st) = φ st := by exact fun _ _ _ => rfl)
    (s : writesS o = true → ∀ v st, φ (State.withS v st) = φ st := by exact fun _ _ _ => rfl)
    (waiting : o = .wai → ∀ v st, φ (State.withWaiting v st) = φ st := by exact fun _ _ _ => rfl)
    (stp : o = .stp → ∀ v st, φ (State.withStp v st) = φ st := by exact fun _ _ _ => rfl) :
    Keeps o fun st => φ st = c where
  toStable := .of_frame φ c devices tick pc latch
  a listed v st h := (a listed v st).trans h
  x listed v st h := (x listed v st).trans h
  y listed v st h := (y listed v st).trans h
  s listed v st h := (s listed v st).trans h
  p v st h := (p v st).trans h
  waiting isWai v st h := (waiting isWai v st).trans h
  stp isStp v st h := (stp isStp v st).trans h

variable {o : Operation}

theorem keeps_a (h : writesA o = false) (c : Byte) : Keeps o fun st => st.a = c :=
  .of_frame State.a c (a := fun listed => absurd listed (by simp [h]))

theorem keeps_x (h : writesX o = false) (c : Byte) : Keeps o fun st => st.x = c :=
  .of_frame State.x c (x := fun listed => absurd listed (by simp [h]))

theorem keeps_y (h : writesY o = false) (c : Byte) : Keeps o fun st => st.y = c :=
  .of_frame State.y c (y := fun listed => absurd listed (by simp [h]))

theorem keeps_s (h : writesS o = false) (c : Byte) : Keeps o fun st => st.s = c :=
  .of_frame State.s c (s := fun listed => absurd listed (by simp [h]))

theorem keeps_waiting (h : o ≠ .wai) (c : Bool) : Keeps o fun st => st.waiting = c :=
  .of_frame State.waiting c (waiting := fun isWai => absurd isWai h)

theorem keeps_stp (h : o ≠ .stp) (c : Bool) : Keeps o fun st => st.stp = c :=
  .of_frame State.stp c (stp := fun isStp => absurd isStp h)

/-- No instruction touches an interrupt latch. -/
theorem keeps_interruptLatches (c : Bool × Bool) : Keeps o fun st => (st.nmiPending, st.irqPending) = c :=
  .of_frame (fun st => (st.nmiPending, st.irqPending)) c

theorem exec_keeps_flag {i : Instr} {s t : State} {f : Flag} (ht : exec i s = .next t)
    (h : writesFlag i.operation f = false) (hf : f ≠ .u) : t.flag f = s.flag f := by
  rw [exec_eq_next, Host.Outcome.next.injEq] at ht
  exact ht ▸ perform_keeps (.flag f (s.flag f)) i.opcode _ (flag_keptBy hf h _) s rfl

/-! ## An instruction under way -/

/-- After `n` transactions an instruction that began in `s` stands in `t`: no fault yet, PC in its place (R36), and
nothing stored outside the addresses `A`. -/
structure Progress (s : State) (A : List Word) (n : Nat) (t : State) : Prop where
  clean : unfaulted s t
  pc : t.pc = s.pc
  ticks : t.ticks = s.ticks + n
  memory : ∀ a, a ∉ A → t.peek a = s.peek a

/-- The ways an instruction ends: with its PC write after `n` transactions, or in a fault on the way (R500). -/
def Flow.Ends (s : State) (A : List Word) (n : Nat) : Flow → Prop
  | .go t => ∃ u v, Progress s A n u ∧ t = u.withPc v
  | .raised _ t => ∃ k, Progress s A k t

theorem Flow.andThen_assoc (f : Flow) (k l : State → Flow) :
    (f.andThen k).andThen l = f.andThen fun st => (k st).andThen l := by cases f <;> rfl

namespace Progress

variable {s t : State} {A : List Word} {n m : Nat}

theorem refl (s : State) (A : List Word) : Progress s A 0 s := ⟨⟨rfl, rfl, rfl⟩, rfl, rfl, fun _ _ => rfl⟩

/-- The register writes of an instruction. -/
theorem survives (o : Operation) : Survives o (Progress s A n) where
  a _ _ _ h := ⟨h.clean, h.pc, h.ticks, h.memory⟩
  x _ _ _ h := ⟨h.clean, h.pc, h.ticks, h.memory⟩
  y _ _ _ h := ⟨h.clean, h.pc, h.ticks, h.memory⟩
  s _ _ _ h := ⟨h.clean, h.pc, h.ticks, h.memory⟩
  p _ _ h := ⟨h.clean, h.pc, h.ticks, h.memory⟩
  waiting _ _ _ h := ⟨h.clean, h.pc, h.ticks, h.memory⟩
  stp _ _ _ h := ⟨h.clean, h.pc, h.ticks, h.memory⟩

variable (h : Progress s A n t)
include h

theorem withS (v : Byte) : Progress s A n (t.withS v) := ⟨h.clean, h.pc, h.ticks, h.memory⟩

theorem withP (v : Byte) : Progress s A n (t.withP v) := ⟨h.clean, h.pc, h.ticks, h.memory⟩

theorem read (a : Word) : Progress s A (n + 1) (t.memRead a).2 :=
  ⟨by simpa [unfaulted] using h.clean, by simpa using h.pc, by simp [h.ticks, Nat.add_assoc], by simpa using h.memory⟩

theorem stored {a : Word} (v : Byte) (ha : a ∈ A) : Progress s A (n + 1) (t.stored a v) := by
  refine ⟨by simpa [unfaulted] using h.clean, by simpa using h.pc, by simp [h.ticks, Nat.add_assoc], fun b hb => ?_⟩
  rw [State.stored_peek_other v t (ne_of_mem_of_not_mem ha hb).symm, h.memory b hb]

theorem read16 (a : Word) : Progress s A (n + 2) (t.memRead16 a).2 := (h.read a).read (a + 1)

theorem pull : Progress s A (n + 1) t.pull.2 := (h.withS _).read _

theorem pullWord : Progress s A (n + 2) t.pullWord.2 := h.pull.pull

theorem effectiveAddress (o : MemOperand) :
    Progress s A (n + (modeTicks o - o.length - 1)) (effectiveAddress o t).2 := by
  cases o with
  | zp | zpX | zpY | abs | absX | absY => exact h
  | zpIndX z | zpIndY z | zpInd z => exact (h.read _).read _

theorem readSource (src : Source) : Progress s A (n + (sourceTicks src - src.length)) (readSource src t).2 := by
  cases src with
  | imm => exact h
  | mem o =>
    have := (h.effectiveAddress o).read (Machine.effectiveAddress o t).1
    have ticks : n + (sourceTicks (.mem o) - (Source.mem o).length) = n + (modeTicks o - o.length - 1) + 1 := by
      cases o <;> rfl
    rw [ticks]
    exact this

theorem readTarget (o : MemOperand) : Progress s A (n + (modeTicks o - o.length)) (readTarget o t).st := by
  have := (h.effectiveAddress o).read (Machine.effectiveAddress o t).1
  have ticks : n + (modeTicks o - o.length) = n + (modeTicks o - o.length - 1) + 1 := by cases o <;> rfl
  rw [ticks]
  exact this

theorem setPC (target : Int) : (t.setPC target).Ends s A n := by
  rcases t.setPC_cases target with ⟨w, hw⟩ | hw <;> rw [hw]
  · exact ⟨t, w, h, rfl⟩
  · exact ⟨n, h⟩

theorem sequential (len : Nat) : (t.sequential len).Ends s A n := h.setPC _

/-- A Write, and what follows it if it is not refused. -/
theorem memWrite {a : Word} (v : Byte) (ha : a ∈ A) {next : State → Flow}
    (k : Progress s A (n + 1) (t.stored a v) → (next (t.stored a v)).Ends s A m) :
    ((t.memWrite a v).andThen next).Ends s A m := by
  rw [State.memWrite_eq]
  split
  · exact k (h.stored v ha)
  · exact ⟨n + 1, h.stored v ha⟩

theorem push (v : Byte) (ha : stackAddr t.s ∈ A) {next : State → Flow}
    (k : ∀ u, Progress s A (n + 1) u → u.s = t.s - 1 → (next u).Ends s A m) :
    ((t.push v).andThen next).Ends s A m := by
  unfold State.push
  rw [Flow.andThen_assoc, State.spAddr_eq]
  exact h.memWrite v ha fun hu => k _ (hu.withS _) rfl

theorem pushWord (w : Word) (hhi : stackAddr t.s ∈ A) (hlo : stackAddr (t.s - 1) ∈ A) {next : State → Flow}
    (k : ∀ u, Progress s A (n + 2) u → u.s = t.s - 1 - 1 → (next u).Ends s A m) :
    ((t.pushWord w).andThen next).Ends s A m := by
  unfold State.pushWord
  rw [Flow.andThen_assoc]
  exact h.push _ hhi fun u hu hs => hu.push _ (hs ▸ hlo) fun v hv hs' => k v hv (hs'.trans (by rw [hs]))

/-- Taking an exception makes five transactions (R581). -/
theorem takeException (e : Entry) (h1 : stackAddr t.s ∈ A) (h2 : stackAddr (t.s - 1) ∈ A)
    (h3 : stackAddr (t.s - 1 - 1) ∈ A) : (t.takeException e).Ends s A (n + 5) := by
  have mark_s : ∀ u : State, (e.markBreak u).s = u.s := fun u => by cases e <;> rfl
  unfold State.takeException
  refine h.pushWord _ h1 h2 fun u hu hs => ?_
  have marked : Progress s A (n + 2) (e.markBreak u) := by cases e <;> exact ⟨hu.clean, hu.pc, hu.ticks, hu.memory⟩
  refine marked.push _ (by rw [mark_s, hs]; exact h3) fun v hv _ => ?_
  have masked : Progress s A (n + 3) (e.mask v) := by cases e <;> exact ⟨hv.clean, hv.pc, hv.ticks, hv.memory⟩
  exact (masked.read16 e.vector).setPC _

end Progress

/-- What an instruction can do, said once: it ends after the transactions of R581, with stores only where R168 and the
stack rules place them, or in a fault before its PC write. -/
theorem perform_ends (opcode : Byte) (o : Operation) (s : State) :
    (perform opcode o s).Ends s (storedAt o s) (stepTicks o s - o.length) := by
  have start : ∀ A, Progress s A 0 s := Progress.refl s
  cases o with
  | read op src =>
    have operand : Progress s [] (sourceTicks src - src.length) (readSource src s).2 := by
      simpa using (start []).readSource src
    rw [perform_read, performRead]
    split
    · exact ⟨_, operand⟩
    · exact ((Progress.survives _).applyRead _ _ operand).sequential _
  | write op dst =>
    have ticks : modeTicks dst - dst.length = 0 + (modeTicks dst - dst.length - 1) + 1 := by cases dst <;> rfl
    refine ((start _).effectiveAddress dst).memWrite _ (by simp [storedAt]) fun hu => ?_
    rw [stepTicks, Operation.length, ticks]
    exact hu.sequential _
  | modify op dst =>
    have ticks : modeTicks dst + 1 - dst.length = 0 + (modeTicks dst - dst.length) + 1 := by cases dst <;> rfl
    have before := (Progress.survives (.modify op dst)).beforeWrite (readTarget dst s).m _
      ((start [(effectiveAddress dst s).1]).readTarget dst)
    refine before.memWrite _ (by simp [readTarget]) fun hu => ?_
    rw [stepTicks, Operation.length, ticks]
    exact ((Progress.survives (.modify op dst)).afterWrite _ _ hu).sequential _
  | accumulator op => exact ((Progress.survives _).applyAcc s (start _)).sequential _
  | register op => exact ((Progress.survives _).applyRegister s (start _)).sequential _
  | flag op => exact ((start _).withP _).sequential _
  | push op => exact (start _).push _ (by simp [storedAt]) fun u hu _ => hu.sequential _
  | pull op => exact ((Progress.survives _).applyPull _ _ (start _).pull).sequential _
  | branch op d =>
    show (branch _ d s).Ends _ _ _
    unfold branch
    split <;> exact (start _).setPC _
  | branchBit n want z d =>
    show (branchBit n want z d s).Ends _ _ _
    unfold branchBit
    dsimp only
    split <;> exact ((start _).read _).setPC _
  | jmp a => exact (start _).setPC _
  | jmpInd a => exact ((start _).read16 _).setPC _
  | jmpIndX a => exact ((start _).read16 _).setPC _
  | jsr a => exact (start _).pushWord _ (by simp [storedAt]) (by simp [storedAt]) fun u hu _ => hu.setPC _
  | rts => exact (start _).pullWord.setPC _
  | rti => exact ((start _).pull.withP _).pullWord.setPC _
  | brk sig =>
    have slot : s.s - 1 - 1 = s.s - 2 := by rw [BitVec.sub_sub]; rfl
    show (brk s).Ends _ _ _
    rw [brk_eq]
    change (if brkTaken s = true then _ else _ : Flow).Ends _ _ _
    cases taken : brkTaken s with
    | true =>
      simpa [stepTicks, Operation.length, taken] using
        (start _).takeException .brk (by simp [storedAt, taken]) (by simp [storedAt, taken])
          (by rw [slot]; simp [storedAt, taken])
    | false =>
      simp only [stepTicks, Operation.length, taken, Bool.false_eq_true, if_false]
      split
      · exact ((start _).withP _).sequential _
      · exact (start _).sequential _
  | wai => exact ((Progress.survives .wai).waiting rfl true _ (start _)).sequential _
  | stp => exact ((Progress.survives .stp).stp rfl true _ (start _)).sequential _
  | nop => exact (start _).sequential _

/-- The state an instruction answers: completed, or with a fault latched. -/
theorem exec_ends {i : Instr} {s t : State} (ht : exec i s = .next t) :
    (∃ u v, Progress s (storedAt i.operation s) (stepTicks i.operation s - i.length) u ∧ t = u.withPc v) ∨
      ∃ r u k, Progress s (storedAt i.operation s) k u ∧ t = u.latch r := by
  rw [exec_eq_next, Host.Outcome.next.injEq] at ht
  subst ht
  have ends := perform_ends i.opcode i.operation s
  rw [i.length_eq]
  cases hf : perform i.opcode i.operation s with
  | go u => rw [hf] at ends; exact .inl ends
  | raised r u => rw [hf] at ends; obtain ⟨k, hk⟩ := ends; exact .inr ⟨r, u, k, hk, rfl⟩

/-- No instruction is longer than its transactions are many: its own bytes are among them (R169). -/
theorem length_le_stepTicks (o : Operation) (s : State) : o.length ≤ stepTicks o s := by
  have operand : ∀ dst : MemOperand, dst.length ≤ modeTicks dst := fun dst => by
    cases dst <;> simp [MemOperand.length, modeTicks]
  cases o with
  | read op src =>
    cases src with
    | imm m => exact Nat.le_refl 2
    | mem dst => exact operand dst
  | write op dst => exact operand dst
  | modify op dst => exact (operand dst).trans (Nat.le_succ _)
  | brk => simp only [Operation.length, stepTicks]; split <;> decide
  | _ => simp [Operation.length, stepTicks]

end Sys2Proof.Machine

namespace Sys2Proof

open Sys2Proof.Machine Sys2Proof.Spec

/-- Settles O15: each register is among what an operation of no listed class keeps. -/
theorem onlyListedInstructionsWriteTheRegisters : Obligations.OnlyListedInstructionsWriteTheRegisters := by
  unfold Obligations.OnlyListedInstructionsWriteTheRegisters
  exact fun i s t ht => ⟨fun h => (keeps_a h s.a).exec ht rfl, fun h => (keeps_x h s.x).exec ht rfl,
    fun h => (keeps_y h s.y).exec ht rfl, fun h => (keeps_s h s.s).exec ht rfl⟩

/-- Settles O16: a flag no rule names survives the operation's own status byte, and U every write of P. -/
theorem onlyNamedFlagsChange : Obligations.OnlyNamedFlagsChange := by
  unfold Obligations.OnlyNamedFlagsChange
  intro i s t f ht unlisted
  exact ⟨exec_keeps_flag ht unlisted, fun _ hu => (Kept.unusedBitSet.keeps i.operation).exec ht hu⟩

/-- Settles O17: each latch is among what the other instructions keep, and a fault can come only before the PC write. -/
theorem latchesChangeOnlyAsNamed : Obligations.LatchesChangeOnlyAsNamed := by
  unfold Obligations.LatchesChangeOnlyAsNamed
  intro i s t ht
  obtain ⟨hnmi, hirq⟩ := Prod.mk.inj ((keeps_interruptLatches (s.nmiPending, s.irqPending)).exec ht rfl)
  refine ⟨fun h => (keeps_waiting h s.waiting).exec ht rfl, fun h => (keeps_stp h s.stp).exec ht rfl, hnmi, hirq, ?_⟩
  obtain ⟨u, v, hu, rfl⟩ | ⟨r, u, k, hu, rfl⟩ := exec_ends ht
  · exact .inl hu.clean
  · obtain ⟨-, -, events⟩ := hu.clean
    exact .inr ⟨r, rfl, rfl, hu.pc, by rw [State.latch_events, events, hu.pc]⟩

/-- Settles O18: an instruction stores on its way only where `storedAt` says, and neither the PC write nor a latched
fault touches memory. -/
theorem onlyStoredBytesChange : Obligations.OnlyStoredBytesChange := by
  unfold Obligations.OnlyStoredBytesChange
  intro i s t a ht ha
  obtain ⟨u, v, hu, rfl⟩ | ⟨r, u, k, hu, rfl⟩ := exec_ends ht
  · exact hu.memory a ha
  · exact hu.memory a ha

/-- Settles O19: an instruction that published no fault has come to its end, after the transactions of R581. -/
theorem ticksPerInstruction : Obligations.TicksPerInstruction := by
  unfold Obligations.TicksPerInstruction
  intro i s t ht clean
  obtain ⟨u, v, hu, rfl⟩ | ⟨r, u, k, hu, rfl⟩ := exec_ends ht
  · have le := length_le_stepTicks i.operation s
    rw [← i.length_eq] at le
    rw [State.withPc_ticks, hu.ticks]
    omega
  · obtain ⟨-, -, before⟩ := hu.clean
    obtain ⟨-, -, after⟩ := clean
    rw [State.latch_events, before] at after
    simp at after

end Sys2Proof
end

section
/-! Proofs about the fetch phases of a ready Step (R36, R120, R133, R134, R502, R520). -/

namespace Sys2Proof

/-- An instruction has as many bytes as its form says (R120, R121). -/
theorem Form.Encodes.length {opcode : Byte} {bit : Bool} {f : Form} {tail rest : List Byte} {i : Instr}
    (henc : f.Encodes opcode bit) (h : f.assemble tail = .ok i rest) : i.length = f.length := by
  unfold Instr.length
  match f, tail, h with
  | .f1 _, _, rfl => rw [henc.1]; rfl
  | .f2 _, op1 :: _, rfl => rw [(henc op1).1]; rfl
  | .f3 _, op1 :: op2 :: _, rfl => rw [(henc op1 op2).1]; rfl

end Sys2Proof

namespace Sys2Proof.Machine

open Sys2Proof.Spec

/-- The state after a ready Step's opcode fetch: a tick, and no longer waiting (R520). -/
def State.opcodeFetched (s : State) : State := { s with waiting := false, ticks := s.ticks + 1 }

/-- A Read of a byte that the state fixes and no I/O device answers: the byte, and one tick. -/
theorem State.memRead_eq {st : State} {a : Word} {v : Byte} (io : st.noIo a) (h : st.peek a = some v) :
    st.memRead a = (v, { st with ticks := st.ticks + 1 }) :=
  Prod.ext (State.memRead_of_peek h) (State.memRead_of_noIo io)

/-- The operand fetches read the bytes after the opcode and tick once for each (R36). -/
theorem fetchOperands_eq {f : Form} {st : State} {b1 b2 : Byte} {i : Instr} {rest : List Byte}
    (io1 : st.noIo (st.pc + 1)) (h1 : st.peek (st.pc + 1) = some b1)
    (io2 : st.noIo (st.pc + 2)) (h2 : st.peek (st.pc + 2) = some b2) (h : f.assemble [b1, b2] = .ok i rest) :
    fetchOperands f st = .instr i { st with ticks := st.ticks + (f.length - 1) } := by
  match f, h with
  | .f1 _, rfl => rfl
  | .f2 _, rfl => rw [fetchOperands, State.memRead_eq io1 h1]; rfl
  | .f3 _, rfl =>
    rw [fetchOperands, State.memRead_eq io1 h1]
    dsimp only
    rw [State.memRead_eq (st := { st with ticks := st.ticks + 1 }) io2 h2]
    rfl

section Ready

variable {s : State} {b : Byte} (ready : s.ready) (io : s.noIo s.pc) (h : s.peek s.pc = some b)
include ready io h

theorem step_of_untabulated (unknown : lookup s.cfg.rockwellBitOps b = none) :
    step s = (State.opcodeFetched s).unknownOpcode b := by
  unfold step executeNext State.fetch
  rw [show s.action = .execute from ready, State.withWaiting_pc, State.withWaiting_cfg,
    State.memRead_eq (st := s.withWaiting false) io h]
  dsimp only
  rw [unknown]
  rfl

theorem step_of_tabulated {d : Descriptor} {i : Instr} {t : State} (found : lookup s.cfg.rockwellBitOps b = some d)
    (fetched : fetchOperands d.form s.opcodeFetched = .instr i t) : step s = exec i t := by
  have opcode : (s.withWaiting false).fetch = .instr i t := by
    unfold State.fetch
    rw [State.withWaiting_pc, State.withWaiting_cfg, State.memRead_eq (st := s.withWaiting false) io h]
    dsimp only
    rw [found]
    exact fetched
  unfold step executeNext
  rw [show s.action = .execute from ready, opcode]

end Ready

/-- The bytes of R133 and R134 have no descriptor. -/
theorem lookup_of_untabulated {bitOps : Bool} {b : Byte} (h : b ∈ untabulated) : lookup bitOps b = none := by
  have none : ∀ b ∈ untabulated, ∀ bitOps, (lookup bitOps b).isNone = true := by decide
  exact Option.isNone_iff_eq_none.1 (none b h bitOps)

theorem lookup_of_bitOpByte {b : Byte} (h : bitOpByte b = true) : lookup false b = none := by
  have none : ∀ b, bitOpByte b = true → (lookup false b).isNone = true := by decide
  exact Option.isNone_iff_eq_none.1 (none b h)

end Sys2Proof.Machine

namespace Sys2Proof

open Sys2Proof.Machine Sys2Proof.Spec

/-- Settles O6: the descriptor found at the opcode has the form that the decoder assembled, so the fetches read those
bytes and as many of them as the instruction is long. -/
theorem stepExecutesTheDecodedInstruction : Obligations.StepExecutesTheDecodedInstruction := by
  unfold Obligations.StepExecutesTheDecodedInstruction
  intro s b0 b1 b2 i rest ready io h0 h1 h2 hdecode
  obtain ⟨opcode, tail, d, hbytes, hd, hform⟩ := decode_eq_ok hdecode
  obtain ⟨rfl, rfl⟩ := List.cons.inj hbytes
  have io0 : s.noIo s.pc := by simpa using io 0 (by decide)
  have fetched := fetchOperands_eq (st := s.opcodeFetched) (io 1 (by decide)) h1 (io 2 (by decide)) h2 hform
  have length := (lookup_placed hd).1.length hform
  have positive : 1 ≤ d.form.length := by cases d.form <;> simp [Form.length]
  rw [step_of_tabulated ready io0 h0 hd fetched, length]
  simp [State.opcodeFetched, Nat.add_assoc, Nat.add_sub_cancel' positive]

/-- Settles O5: those bytes have no descriptor, so the fault is raised in the state after the opcode fetch. -/
theorem untabulatedByteLatchesUnknownOpcode : Obligations.UntabulatedByteLatchesUnknownOpcode := by
  unfold Obligations.UntabulatedByteLatchesUnknownOpcode
  intro s b ready io h untab
  have unknown : lookup s.cfg.rockwellBitOps b = none := by
    rcases untab with untab | ⟨off, bit⟩
    · exact lookup_of_untabulated untab
    · rw [off]
      exact lookup_of_bitOpByte bit
  rw [step_of_untabulated ready io h unknown]
  rfl

end Sys2Proof
end

section
/-! Proofs about addressing modes, operands, RAM and the address decoder (R78, R82 to R85, R96, R150 to R168). -/

namespace Sys2Proof.Machine

/-! ## Addresses as numbers -/

theorem zext_toNat (b : Byte) : (zext b).toNat = b.toNat := by
  unfold zext
  rw [BitVec.toNat_setWidth, Nat.mod_eq_of_lt (by omega)]

/-- A sum in the zero page wraps there (R157, R158). -/
theorem zext_add_toNat (b c : Byte) : (zext (b + c)).toNat = (b.toNat + c.toNat) % 256 := by
  rw [zext_toNat, BitVec.toNat_add]

theorem add_zext_toNat (a : Word) (b : Byte) : (a + zext b).toNat = (a.toNat + b.toNat) % 65536 := by
  rw [BitVec.toNat_add, zext_toNat]

/-! ## Reading writes no register -/

/-- `t` is `s` but for the tick counter and the devices, which a Read leaves changed (R50, R84). -/
def State.OnlyReads (s t : State) : Prop := t = { s with ticks := t.ticks, devices := t.devices }

theorem State.OnlyReads.trans {s t u : State} (h : s.OnlyReads t) (k : t.OnlyReads u) : s.OnlyReads u := by
  unfold State.OnlyReads at h k ⊢
  exact k.trans (by rw [h])

theorem State.memRead_onlyReads (a : Word) (st : State) : st.OnlyReads (st.memRead a).2 := rfl

theorem State.zpRead16_onlyReads (z : Byte) (st : State) : st.OnlyReads (st.zpRead16 z).2 :=
  (st.memRead_onlyReads _).trans (State.memRead_onlyReads _ _)

theorem effectiveAddress_onlyReads (o : MemOperand) (st : State) : st.OnlyReads (effectiveAddress o st).2 := by
  cases o with
  | zp | zpX | zpY | abs | absX | absY => rfl
  | zpIndX z | zpIndY z | zpInd z => exact st.zpRead16_onlyReads _

/-! ## The decoder (R78, R82) -/

/-- Where every two elements are set apart by a relation that no two have, there is at most one. -/
theorem List.length_le_one_of_pairwise {α : Type} {R : α → α → Prop} {l : List α} (h : l.Pairwise R)
    (no : ∀ a ∈ l, ∀ b ∈ l, ¬ R a b) : l.length ≤ 1 := by
  match l, h with
  | [], _ => exact Nat.zero_le 1
  | [_], _ => exact Nat.le_refl 1
  | a :: b :: _, h => exact absurd (List.rel_of_pairwise_cons h (by simp)) (no a (by simp) b (by simp))

theorem rangesWf_pairwise {ranges : List AddressRange} (h : rangesWf ranges = true) :
    ranges.Pairwise fun r q => rangesDisjoint r q = true := by
  induction ranges with
  | nil => exact .nil
  | cons r rest ih =>
    simp only [rangesWf, Bool.and_eq_true, List.all_eq_true] at h
    obtain ⟨⟨-, apart⟩, wf⟩ := h
    exact .cons (fun q hq => (apart q hq).1) (ih wf)

/-- Disjoint ranges do not share an address. -/
theorem not_rangesDisjoint {r q : AddressRange} {a : Word} (hr : r.start ≤ a ∧ a ≤ r.stop)
    (hq : q.start ≤ a ∧ a ≤ q.stop) : ¬ rangesDisjoint r q = true := by
  simp only [rangesDisjoint, Bool.or_eq_true, decide_eq_true_eq, BitVec.le_def, BitVec.lt_def] at *
  omega

theorem decodeAddress_length {ranges : List AddressRange} (h : rangesWf ranges = true) (a : Word) :
    (decodeAddress ranges a).length ≤ 1 := by
  rw [decodeAddress, List.length_map]
  refine List.length_le_one_of_pairwise ((rangesWf_pairwise h).filter _) fun r hr q hq => ?_
  simp only [List.mem_filter, Bool.and_eq_true, decide_eq_true_eq] at hr hq
  exact not_rangesDisjoint hr.2 hq.2

theorem chipsDistinct_pairwise {ds : List Device} (h : chipsDistinct ds = true) :
    ds.Pairwise fun d e => d.attr.mappedIo ≠ e.attr.mappedIo := by
  induction ds with
  | nil => exact .nil
  | cons d rest ih =>
    simp only [chipsDistinct, Bool.and_eq_true, List.all_eq_true, decide_eq_true_eq] at h
    exact .cons h.1 (ih h.2)

/-- One decoded chip-select and one device on it: at most one device is selected. -/
theorem selected_length {ds : List Device} (h : chipsDistinct ds = true) {decoded : List ChipSelect}
    (one : decoded.length ≤ 1) : (ds.filter fun d => d.selected decoded).length ≤ 1 := by
  refine List.length_le_one_of_pairwise ((chipsDistinct_pairwise h).filter _) fun d hd e he differ => differ ?_
  simp only [List.mem_filter, Device.selected, Bool.and_eq_true, List.contains_iff_mem] at hd he
  match decoded, one, hd.2.2, he.2.2 with
  | [_], _, hd, he => rw [List.mem_singleton.1 hd, List.mem_singleton.1 he]

theorem State.mapWellFormed_parts {st : State} (h : st.mapWellFormed = true) :
    rangesWf st.cfg.ranges = true ∧ chipsDistinct st.devices = true := by
  simp only [State.mapWellFormed, mapWf, Bool.and_eq_true] at h
  exact ⟨h.1.1, h.2⟩

/-- R83 from R78: at most one device is selected at any address. -/
theorem State.selected_length {st : State} (h : st.mapWellFormed = true) (a : Word) :
    (st.devices.filter fun d => d.selected (decodeAddress st.cfg.ranges a)).length ≤ 1 :=
  Machine.selected_length (st.mapWellFormed_parts h).2 (decodeAddress_length (st.mapWellFormed_parts h).1 a)

end Sys2Proof.Machine

namespace Sys2Proof

open Sys2Proof.Machine

/-- Settles O20: the sums read as numbers, and a pointer as the word of its two bytes. -/
theorem effectiveAddresses : Obligations.EffectiveAddresses := by
  unfold Obligations.EffectiveAddresses
  intro s z a
  refine ⟨zext_toNat z, zext_add_toNat z s.x, zext_add_toNat z s.y, rfl, add_zext_toNat a s.x, add_zext_toNat a s.y,
    fun lo hi hlo hhi => ?_, fun lo hi hlo hhi => ?_⟩
  · have pointer : (s.zpRead16 z).1 = wordOf hi lo := State.zpRead16_of_peek hlo hhi
    exact ⟨by rw [effectiveAddress, pointer, wordOf_toNat],
      by rw [effectiveAddress, pointer, add_zext_toNat, wordOf_toNat]⟩
  · rw [effectiveAddress, State.zpRead16_of_peek hlo hhi, wordOf_toNat]

/-- Settles O21: the addressing modes and the operand read are Reads, which write the tick counter and the devices'
histories alone. -/
theorem operandsAreReadWithoutAnyWrite : Obligations.OperandsAreReadWithoutAnyWrite := by
  unfold Obligations.OperandsAreReadWithoutAnyWrite
  refine ⟨fun _ _ => rfl, fun s o v h => State.memRead_of_peek (by simpa using h), fun s o a => ?_⟩
  have address := effectiveAddress_onlyReads o s
  exact ⟨address, address.trans (State.memRead_onlyReads _ _), by simp, by simp⟩

/-- Settles O22: RAM may be written, and a canonical array gives the byte back at its own index alone. -/
theorem ramReadsTheLastWrite : Obligations.RamReadsTheLastWrite := by
  unfold Obligations.RamReadsTheLastWrite
  intro s a v wf ram
  have stored := State.stored_peek_same v wf ram
  exact ⟨s.stored a v, State.memWrite_of_writable v (State.writable_of_isRam ram), stored, State.memRead_of_peek stored,
    fun b hb => State.stored_peek_other v s hb⟩

/-- Settles O24: disjoint ranges decode one chip-select, on which there is one device. -/
theorem atMostOneDeviceAnswers : Obligations.AtMostOneDeviceAnswers := by
  unfold Obligations.AtMostOneDeviceAnswers
  exact fun s a h => ⟨decodeAddress_length (State.mapWellFormed_parts h).1 a, State.selected_length h a⟩

end Sys2Proof
end

section
/-! Proofs about the read class: loads, arithmetic, compares, logic and BIT (R200 to R210, R340 to R343, R400 to
R402). -/

namespace Sys2Proof.Machine

open Sys2Proof.Spec

/-! ## Completion of the classes that write no memory -/

theorem unfaulted.trans {s t u : State} (h : unfaulted s t) (k : unfaulted t u) : unfaulted s u :=
  ⟨k.1.trans h.1, k.2.1.trans h.2.1, k.2.2.trans h.2.2⟩

/-- An instruction whose flow goes on to `t` completes with it. -/
theorem exec_of_go {i : Instr} {o : Operation} {s t : State} (hi : i.operation = o)
    (h : perform i.opcode o s = .go t) : exec i s = .next t := by
  rw [exec_eq_perform, hi, h]; rfl

theorem exec_of_raised {i : Instr} {o : Operation} {r : FaultReason} {s t : State} (hi : i.operation = o)
    (h : perform i.opcode o s = .raised r t) : exec i s = .next (t.latch r) := by
  rw [exec_eq_perform, hi, h]; rfl

theorem Instr.length_of_operation {i : Instr} {o : Operation} (hi : i.operation = o) : i.length = o.length :=
  hi ▸ i.length_eq

/-- The next instruction follows a state that has the PC and the parameters of the one before. -/
theorem State.sequential_of_same {s u : State} (len : Nat) (pc : u.pc = s.pc) (cfg : u.cfg = s.cfg) :
    u.sequential len = .go (u.withPc (s.pcAfter ((s.pc.toNat : Int) + len))) := by
  rw [State.sequential_eq, pc, State.pcAfter_congr cfg]

@[simp] theorem applyRead_pc (op : ReadOp) (src : Source) (m : Byte) (st : State) :
    (applyRead op src m st).pc = st.pc := by cases op <;> rfl

@[simp] theorem applyRead_cfg (op : ReadOp) (src : Source) (m : Byte) (st : State) :
    (applyRead op src m st).cfg = st.cfg := by cases op <;> rfl

theorem applyRead_unfaulted (op : ReadOp) (src : Source) (m : Byte) (st : State) :
    unfaulted st (applyRead op src m st) := by cases op <;> exact ⟨rfl, rfl, rfl⟩

theorem readSource_unfaulted (src : Source) (st : State) : unfaulted st (readSource src st).2 := by simp [unfaulted]

@[simp] theorem readFaults_readSource (op : ReadOp) (src : Source) (st : State) :
    readFaults op (readSource src st).2 = readFaults op st := by simp [readFaults]

/-- The state a read-class instruction completes with. -/
def readDone (op : ReadOp) (src : Source) (s : State) : State :=
  (applyRead op src (readSource src s).1 (readSource src s).2).withPc (s.pcAfter ((s.pc.toNat : Int) + src.length))

/-- A read-class instruction that does not fault completes, and only its own writes are left to look at. -/
theorem exec_read {i : Instr} {op : ReadOp} {src : Source} {s : State} {Q : State → Prop}
    (hi : i.operation = .read op src) (h : readFaults op s = false) (hQ : Q (readDone op src s)) :
    ∃ t, exec i s = .next t ∧ unfaulted s t ∧ advances s t i.length ∧ Q t := by
  refine ⟨readDone op src s, exec_of_go hi ?_, ?_, ?_, hQ⟩
  · rw [perform_read, performRead_eq _ (by simpa using h), applyRead_pc, readSource_pc,
      State.pcAfter_congr (by simp : _ = s.cfg)]
    rfl
  · exact (readSource_unfaulted src s).trans (applyRead_unfaulted ..)
  · rw [Instr.length_of_operation hi]
    rfl

theorem nzOf_setNZ (v : Byte) (pc : Word) (st : State) : nzOf ((st.setNZ v).withPc pc) v := by
  simp [nzOf, State.flag_setNZ]

/-- ADC and SBC fault only with D set under `DECIMAL_MODE = fault`. -/
theorem readFaults_of_binary {op : ReadOp} {st : State} (h : st.flag .d = false) : readFaults op st = false := by
  simp [readFaults, h]

theorem readFaults_of_bcd {op : ReadOp} {st : State} (h : st.cfg.decimalMode = .bcd65c02) :
    readFaults op st = false := by
  simp [readFaults, h]

/-! ## The sums of ADC and SBC in the integers (R201 to R206) -/

/-- Bit 7 is the sign. -/
theorem getLsbD_seven (b : Byte) : b.getLsbD 7 = decide (128 ≤ b.toNat) := by
  have msb := BitVec.msb_eq_decide b
  rwa [BitVec.msb_eq_getLsbD_last] at msb

theorem s8_eq (b : Byte) : s8 b = if b.toNat < 128 then (b.toNat : Int) else b.toNat - 256 := by
  rw [s8, BitVec.toInt_eq_toNat_cond]
  split <;> split <;> omega

theorem bitNat_le (c : Bool) : bitNat c ≤ 1 := by cases c <;> decide

/-- The overflow of R202 is that of the signed sum. -/
theorem addBin_v (a b : Byte) (c : Bool) :
    (addBin a b c).v = decide (s8 a + s8 b + bitNat c < -128 ∨ 127 < s8 a + s8 b + bitNat c) := by
  have ha := a.isLt
  have hb := b.isLt
  have hc := bitNat_le c
  have sign : (BitVec.ofNat 8 (a.toNat + b.toNat + bitNat c)).toNat = (a.toNat + b.toNat + bitNat c) % 256 :=
    BitVec.toNat_ofNat ..
  simp only [addBin, getLsbD_seven, sign, s8_eq]
  rw [Bool.eq_iff_iff]
  simp only [Bool.and_eq_true, decide_eq_true_eq, decide_eq_decide, ne_eq]
  split <;> split <;> omega

theorem not_toNat (b : Byte) : (~~~b).toNat = 255 - b.toNat := by
  rw [BitVec.toNat_not]

/-- The complement is `-1 - b` in two's complement. -/
theorem s8_not (b : Byte) : s8 (~~~b) = -1 - s8 b := by
  have hb := b.isLt
  rw [s8_eq, s8_eq, not_toNat]
  split <;> split <;> omega

/-- Adding the complement subtracts (R205). -/
theorem addBin_not (a m : Byte) (c : Bool) :
    ((addBin a (~~~m) c).r.toNat : Int) = ((a.toNat : Int) - m.toNat - (1 - bitNat c)) % 256 ∧
      (addBin a (~~~m) c).c = decide ((0 : Int) ≤ (a.toNat : Int) - m.toNat - (1 - bitNat c)) ∧
      (addBin a (~~~m) c).v = decide (s8 a - s8 m - (1 - bitNat c) < -128 ∨ 127 < s8 a - s8 m - (1 - bitNat c)) := by
  have hm := m.isLt
  have hc := bitNat_le c
  refine ⟨?_, ?_, ?_⟩
  · rw [addBin, BitVec.toNat_ofNat, not_toNat]
    omega
  · rw [addBin, not_toNat, decide_eq_decide]
    omega
  · rw [addBin_v, s8_not, decide_eq_decide]
    omega

/-! ## Decimal sums (R203, R206) -/

theorem and_lowDigit (b : Byte) : (b &&& 0x0F).toNat = b.toNat % 16 := by
  rw [BitVec.toNat_and]
  exact Nat.and_two_pow_sub_one_eq_mod b.toNat 4

theorem and_highDigit (b : Byte) : (b &&& 0xF0).toNat = 16 * (b.toNat / 16) := by
  revert b; decide

theorem bcd_of_digits {r : Byte} (hi lo : Nat) (hhi : hi ≤ 9) (hlo : lo ≤ 9) (h : r.toNat = 16 * hi + lo) :
    isBcd r ∧ bcdValue r = 10 * hi + lo := by
  unfold isBcd bcdValue
  omega

/-- On decimal operands the adjusted sum is the decimal one: the low digits carry at ten, and the high ones with them
(R203). -/
theorem addDec_bcd {a b : Byte} (c : Bool) (ha : isBcd a) (hb : isBcd b) :
    isBcd (addDec a b c).r ∧ bcdValue (addDec a b c).r = (bcdValue a + bcdValue b + bitNat c) % 100 ∧
      (addDec a b c).c = decide (100 ≤ bcdValue a + bcdValue b + bitNat c) := by
  have hc := bitNat_le c
  unfold isBcd at ha hb
  have digits : ∃ hi lo, hi ≤ 9 ∧ lo ≤ 9 ∧ addDecSum a b c % 256 = 16 * hi + lo ∧
      10 * hi + lo = (bcdValue a + bcdValue b + bitNat c) % 100 ∧
      (256 ≤ addDecSum a b c ↔ 100 ≤ bcdValue a + bcdValue b + bitNat c) := by
    simp only [addDecSum, addDecLow, and_lowDigit, and_highDigit, bcdValue]
    by_cases low : 10 ≤ a.toNat % 16 + b.toNat % 16 + bitNat c
    · rw [if_pos low]
      by_cases high : 10 ≤ a.toNat / 16 + b.toNat / 16 + 1
      · rw [if_pos (by omega)]
        exact ⟨a.toNat / 16 + b.toNat / 16 + 1 - 10, a.toNat % 16 + b.toNat % 16 + bitNat c - 10, by omega⟩
      · rw [if_neg (by omega)]
        exact ⟨a.toNat / 16 + b.toNat / 16 + 1, a.toNat % 16 + b.toNat % 16 + bitNat c - 10, by omega⟩
    · rw [if_neg low]
      by_cases high : 10 ≤ a.toNat / 16 + b.toNat / 16
      · rw [if_pos (by omega)]
        exact ⟨a.toNat / 16 + b.toNat / 16 - 10, a.toNat % 16 + b.toNat % 16 + bitNat c, by omega⟩
      · rw [if_neg (by omega)]
        exact ⟨a.toNat / 16 + b.toNat / 16, a.toNat % 16 + b.toNat % 16 + bitNat c, by omega⟩
  obtain ⟨hi, lo, hhi, hlo, sum, value, carry⟩ := digits
  obtain ⟨bcd, result⟩ := bcd_of_digits (r := (addDec a b c).r) hi lo hhi hlo (by rw [addDec, BitVec.toNat_ofNat, sum])
  exact ⟨bcd, result.trans value, decide_eq_decide.2 carry⟩

/-- On decimal operands the adjusted difference is the decimal one: the low digits borrow below zero, and the high ones
with them (R206). -/
theorem subDec_bcd {a b : Byte} (c : Bool) (ha : isBcd a) (hb : isBcd b) :
    isBcd (subDec a b c).r ∧
      (bcdValue (subDec a b c).r : Int) = ((bcdValue a : Int) - bcdValue b - (1 - bitNat c)) % 100 := by
  have hc := bitNat_le c
  unfold isBcd at ha hb
  have digits : ∃ hi lo : Nat, hi ≤ 9 ∧ lo ≤ 9 ∧ subDecDiff a b c % 256 = 16 * hi + lo ∧
      (10 * hi + lo : Int) = ((bcdValue a : Int) - bcdValue b - (1 - bitNat c)) % 100 := by
    simp only [subDecDiff, subDecLow, and_lowDigit, bcdValue]
    by_cases low : b.toNat % 16 + 1 ≤ a.toNat % 16 + bitNat c
    · rw [if_neg (by omega : ¬ ((a.toNat % 16 : Nat) : Int) - (b.toNat % 16 : Nat) + bitNat c - 1 < 0)]
      by_cases high : b.toNat / 16 ≤ a.toNat / 16
      · rw [if_neg (by omega)]
        exact ⟨a.toNat / 16 - b.toNat / 16, a.toNat % 16 + bitNat c - 1 - b.toNat % 16, by omega⟩
      · rw [if_pos (by omega)]
        exact ⟨a.toNat / 16 + 10 - b.toNat / 16, a.toNat % 16 + bitNat c - 1 - b.toNat % 16, by omega⟩
    · rw [if_pos (by omega : ((a.toNat % 16 : Nat) : Int) - (b.toNat % 16 : Nat) + bitNat c - 1 < 0)]
      by_cases high : b.toNat / 16 + 1 ≤ a.toNat / 16
      · rw [if_neg (by omega)]
        exact ⟨a.toNat / 16 - 1 - b.toNat / 16, a.toNat % 16 + bitNat c + 9 - b.toNat % 16, by omega⟩
      · rw [if_pos (by omega)]
        exact ⟨a.toNat / 16 + 9 - b.toNat / 16, a.toNat % 16 + bitNat c + 9 - b.toNat % 16, by omega⟩
  obtain ⟨hi, lo, hhi, hlo, diff, value⟩ := digits
  have byte : (subDec a b c).r.toNat = 16 * hi + lo := by
    rw [subDec, BitVec.toNat_ofInt, show ((2 ^ 8 : Nat) : Int) = 256 from rfl, diff]
    rfl
  obtain ⟨bcd, result⟩ := bcd_of_digits hi lo hhi hlo byte
  exact ⟨bcd, by rw [result, ← value]; push_cast; rfl⟩

/-! ## The flags a read-class instruction leaves -/

theorem nzOf_withAlu (res : AluResult) (pc : Word) (st : State) : nzOf ((st.withAlu res).withPc pc) res.r := by
  simp [nzOf, State.flag_withAlu]

theorem flag_c_withAlu (res : AluResult) (st : State) : (st.withAlu res).flag .c = res.c := by
  simp [State.flag_withAlu]

theorem flag_v_withAlu (res : AluResult) (st : State) : (st.withAlu res).flag .v = res.v := by
  simp [State.flag_withAlu]

/-- The sum that ADC takes is that of its start: reading the operand changes no register. -/
@[simp] theorem adcResult_readSource (src : Source) (m : Byte) (st : State) :
    adcResult (readSource src st).2 m = adcResult st m := by simp [adcResult]

@[simp] theorem sbcResult_readSource (src : Source) (m : Byte) (st : State) :
    sbcResult (readSource src st).2 m = sbcResult st m := by simp [sbcResult]

/-- What ADC or SBC leaves: the result in A, its carry and overflow, N and Z. -/
theorem exec_alu {i : Instr} {op : ReadOp} {src : Source} {s : State} {res : AluResult}
    (hi : i.operation = .read op src) (h : readFaults op s = false)
    (hres : applyRead op src (readSource src s).1 (readSource src s).2 = (readSource src s).2.withAlu res) :
    ∃ t, exec i s = .next t ∧ unfaulted s t ∧ advances s t i.length ∧
      nzOf t t.a ∧ t.a = res.r ∧ t.flag .c = res.c ∧ t.flag .v = res.v := by
  apply exec_read hi h
  rw [readDone, hres]
  exact ⟨nzOf_withAlu .., rfl, flag_c_withAlu .., flag_v_withAlu ..⟩

theorem exec_adc {i : Instr} {src : Source} {s : State} (hi : i.operation = .read .adc src)
    (h : readFaults .adc s = false) :
    ∃ t, exec i s = .next t ∧ unfaulted s t ∧ advances s t i.length ∧ nzOf t t.a ∧
      t.a = (adcResult s (readSource src s).1).r ∧ t.flag .c = (adcResult s (readSource src s).1).c ∧
      t.flag .v = (adcResult s (readSource src s).1).v :=
  exec_alu hi h (by simp [applyRead])

theorem exec_sbc {i : Instr} {src : Source} {s : State} (hi : i.operation = .read .sbc src)
    (h : readFaults .sbc s = false) :
    ∃ t, exec i s = .next t ∧ unfaulted s t ∧ advances s t i.length ∧ nzOf t t.a ∧
      t.a = (sbcResult s (readSource src s).1).r ∧ t.flag .c = (sbcResult s (readSource src s).1).c ∧
      t.flag .v = (sbcResult s (readSource src s).1).v :=
  exec_alu hi h (by simp [applyRead])

/-- A compare writes the three flags of R210 and no register. -/
theorem exec_compare {i : Instr} {op : ReadOp} {src : Source} {s : State} {reg : Byte}
    (hi : i.operation = .read op src) (h : readFaults op s = false)
    (hop : applyRead op src (readSource src s).1 (readSource src s).2 =
      (readSource src s).2.compare reg (readSource src s).1) :
    ∃ t, exec i s = .next t ∧ unfaulted s t ∧ advances s t i.length ∧ sameAXY s t ∧
      t.flag .c = decide ((readSource src s).1.toNat ≤ reg.toNat) ∧ t.flag .z = decide (reg = (readSource src s).1) ∧
      t.flag .n = (reg - (readSource src s).1).getLsbD 7 := by
  apply exec_read hi h
  rw [readDone, hop]
  have zero : reg - (readSource src s).1 = 0 ↔ reg = (readSource src s).1 := sub_eq_zero
  simpa [sameAXY, State.flag_compare] using zero

end Sys2Proof.Machine

namespace Sys2Proof

open Sys2Proof.Machine Sys2Proof.Spec

/-- Settles O26: a load's own writes are the operand in its register, and N and Z. -/
theorem loadsPutTheOperandInTheRegister : Obligations.LoadsPutTheOperandInTheRegister := by
  unfold Obligations.LoadsPutTheOperandInTheRegister
  exact fun i src s => ⟨fun hi => exec_read hi rfl ⟨rfl, nzOf_setNZ ..⟩,
    fun hi => exec_read hi rfl ⟨rfl, nzOf_setNZ ..⟩, fun hi => exec_read hi rfl ⟨rfl, nzOf_setNZ ..⟩⟩

/-- Settles O29: with D clear ADC leaves the triple of `AddBin`, whose overflow is that of the signed sum. -/
theorem adcBinary : Obligations.AdcBinary := by
  unfold Obligations.AdcBinary
  intro i src s hi hd
  obtain ⟨t, ht, clean, next, nz, ha, hc, hv⟩ := exec_adc hi (readFaults_of_binary hd)
  have res : adcResult s (readSource src s).1 = addBin s.a (readSource src s).1 (s.flag .c) := by simp [adcResult, hd]
  rw [res] at ha hc hv
  exact ⟨t, ht, clean, next, by rw [ha, addBin, BitVec.toNat_ofNat], hc, hv.trans (addBin_v ..), nz⟩

/-- Settles O30: with D clear SBC adds the complement, which subtracts. -/
theorem sbcBinary : Obligations.SbcBinary := by
  unfold Obligations.SbcBinary
  intro i src s hi hd
  obtain ⟨t, ht, clean, next, nz, ha, hc, hv⟩ := exec_sbc hi (readFaults_of_binary hd)
  have res : sbcResult s (readSource src s).1 = addBin s.a (~~~(readSource src s).1) (s.flag .c) := by
    simp [sbcResult, hd]
  rw [res] at ha hc hv
  obtain ⟨diff, carry, overflow⟩ := addBin_not s.a (readSource src s).1 (s.flag .c)
  exact ⟨t, ht, clean, next, by rw [ha]; exact diff, hc.trans carry, hv.trans overflow, nz⟩

/-- Settles O31: with D set ADC leaves the triple of `AddDec`, which on decimal operands is the decimal sum. -/
theorem adcDecimal : Obligations.AdcDecimal := by
  unfold Obligations.AdcDecimal
  intro i src s hi hd mode
  obtain ⟨t, ht, clean, next, nz, ha, hc, hv⟩ := exec_adc hi (readFaults_of_bcd mode)
  have res : adcResult s (readSource src s).1 = addDec s.a (readSource src s).1 (s.flag .c) := by simp [adcResult, hd]
  rw [res] at ha hc hv
  refine ⟨t, ht, clean, next, nz, ha, hc, hv, fun bcdA bcdM => ?_⟩
  rw [ha, hc]
  exact addDec_bcd (s.flag .c) bcdA bcdM

/-- Settles O32: with D set SBC leaves the result of `SubDec` with the carry and the overflow of the binary
difference. -/
theorem sbcDecimal : Obligations.SbcDecimal := by
  unfold Obligations.SbcDecimal
  intro i src s hi hd mode
  obtain ⟨t, ht, clean, next, nz, ha, hc, hv⟩ := exec_sbc hi (readFaults_of_bcd mode)
  have res : sbcResult s (readSource src s).1 = subDec s.a (readSource src s).1 (s.flag .c) := by simp [sbcResult, hd]
  rw [res] at ha hc hv
  obtain ⟨-, carry, overflow⟩ := addBin_not s.a (readSource src s).1 (s.flag .c)
  refine ⟨t, ht, clean, next, nz, ha, hc.trans carry, hv.trans overflow, fun bcdA bcdM => ?_⟩
  rw [ha]
  exact subDec_bcd (s.flag .c) bcdA bcdM

/-- Settles O33: the fault is raised in the state after the operand read, which has written no register. -/
theorem decimalFaultMode : Obligations.DecimalFaultMode := by
  unfold Obligations.DecimalFaultMode
  intro i src s hi hd mode
  obtain ⟨op, hop, faults⟩ : ∃ op, i.operation = .read op src ∧ readFaults op s = true := by
    rcases hi with hi | hi
    · exact ⟨.adc, hi, by simp [readFaults, hd, mode]⟩
    · exact ⟨.sbc, hi, by simp [readFaults, hd, mode]⟩
  have raised : perform i.opcode (.read op src) s =
      .raised (.notImplemented i.opcode s.pc) (readSource src s).2 := by
    simp [perform_read, performRead, faults]
  exact ⟨_, exec_of_raised hop raised, rfl, rfl, by simp [sameAXY], by simp, by simp, by simp, rfl⟩

/-- Settles O34: each compare is `Compare` of its own register. -/
theorem compares : Obligations.Compares := by
  unfold Obligations.Compares
  rintro i src s reg (⟨hi, rfl⟩ | ⟨hi, rfl⟩ | ⟨hi, rfl⟩)
  · exact exec_compare hi rfl (by simp [applyRead])
  · exact exec_compare hi rfl (by simp [applyRead])
  · exact exec_compare hi rfl (by simp [applyRead])

/-- Settles O38: the result is the bitwise one, in A and in N and Z. -/
theorem logicalOperations : Obligations.LogicalOperations := by
  unfold Obligations.LogicalOperations
  refine fun i src s => ⟨fun hi => ?_, fun hi => ?_, fun hi => ?_⟩
  · exact exec_read hi rfl ⟨nzOf_setNZ .., fun k => by simp [readDone, applyRead]⟩
  · exact exec_read hi rfl ⟨nzOf_setNZ .., fun k => by simp [readDone, applyRead]⟩
  · exact exec_read hi rfl ⟨nzOf_setNZ .., fun k => by simp [readDone, applyRead]⟩

/-- Settles O39: the operand's form chooses whether N and V are written. -/
theorem bitTest : Obligations.BitTest := by
  unfold Obligations.BitTest
  intro i src s hi
  apply exec_read hi rfl
  cases src with
  | imm m => simp [readDone, applyRead, bitStatus, State.flag_withP, getFlag_statusBitTest, State.getFlag_p]
  | mem o => simp [readDone, applyRead, bitStatus, State.flag_withP, getFlag_statusBitMemory]

end Sys2Proof
end

section
/-! Proofs about the instructions of one register or flag, and about stores and read-modify-writes (R211 to R218, R240
to R243, R344 to R364, R403 to R412, R430 to R456). -/

namespace Sys2Proof.Machine

open Sys2Proof.Spec

/-! ## Instructions whose own writes come before the step to the next instruction -/

/-- The flow goes on in sequence from a state that still has the instruction's PC. -/
theorem exec_sequential {i : Instr} {o : Operation} {s u : State} {len : Nat} {Q : State → Prop} (hi : i.operation = o)
    (hp : perform i.opcode o s = u.sequential len) (clean : unfaulted s u) (pc : u.pc = s.pc) (cfg : u.cfg = s.cfg)
    (hQ : Q (u.withPc (s.pcAfter ((s.pc.toNat : Int) + len)))) :
    ∃ t, exec i s = .next t ∧ unfaulted s t ∧ advances s t len ∧ Q t :=
  ⟨_, exec_of_go hi (hp.trans (State.sequential_of_same len pc cfg)), clean, rfl, hQ⟩

theorem exec_register {i : Instr} {op : RegisterOp} {s : State} {Q : State → Prop} (hi : i.operation = .register op)
    (hQ : Q ((applyRegister op s).withPc (s.pcAfter ((s.pc.toNat : Int) + 1)))) :
    ∃ t, exec i s = .next t ∧ unfaulted s t ∧ advances s t 1 ∧ Q t :=
  exec_sequential hi rfl (by cases op <;> exact ⟨rfl, rfl, rfl⟩) (by cases op <;> rfl) (by cases op <;> rfl) hQ

theorem exec_accumulator {i : Instr} {op : AccOp} {s : State} {Q : State → Prop} (hi : i.operation = .accumulator op)
    (hQ : Q ((applyAcc op s).withPc (s.pcAfter ((s.pc.toNat : Int) + 1)))) :
    ∃ t, exec i s = .next t ∧ unfaulted s t ∧ advances s t 1 ∧ Q t :=
  exec_sequential hi rfl (by cases op <;> exact ⟨rfl, rfl, rfl⟩) (by cases op <;> rfl) (by cases op <;> rfl) hQ

theorem add_one_toNat (b : Byte) : (b + 1).toNat = (b.toNat + 1) % 256 := BitVec.toNat_add b 1

theorem sub_one_toNat (b : Byte) : (b - 1).toNat = (b.toNat + 255) % 256 := by
  rw [BitVec.toNat_sub, Nat.add_comm]
  rfl

/-! ## Shifts bit by bit (R240 to R243) -/

theorem shl_getLsbD (v : Byte) (k : Nat) (hk : k < 7) : (v <<< 1).getLsbD (k + 1) = v.getLsbD k := by
  rw [BitVec.getLsbD_shiftLeft, decide_eq_true (by omega : k + 1 < 8), Nat.add_sub_cancel,
    decide_eq_false (by omega : ¬ k + 1 < 1)]
  rfl

theorem shr_getLsbD (v : Byte) (k : Nat) : (v >>> 1).getLsbD k = v.getLsbD (k + 1) := by
  rw [BitVec.getLsbD_ushiftRight, Nat.add_comm]

/-- The carry that enters a rotate stands in one bit alone. -/
theorem entering_getLsbD (c : Bool) (n : Fin 8) (k : Nat) (hk : k < 8) :
    (if c then bitMask n else 0 : Byte).getLsbD k = (c && decide (k = n)) := by
  have bit : ∀ n k : Fin 8, (bitMask n).getLsbD k = decide (k.val = n.val) := by decide
  cases c with
  | false => simp
  | true => exact bit n ⟨k, hk⟩

theorem shifts_accShift {op : AccOp} (hinc : op ≠ .inc) (hdec : op ≠ .dec) (v : Byte) (c : Bool) :
    shifts op v c (accShift op v c).r (accShift op v c).c := by
  cases op with
  | asl => exact ⟨rfl, by simp [accShift, aslByte], shl_getLsbD v⟩
  | lsr => exact ⟨rfl, by simp [accShift, lsrByte], fun k _ => shr_getLsbD v k⟩
  | rol =>
    refine ⟨rfl, ?_, fun k hk => ?_⟩
    · show (v <<< 1 ||| if c then bitMask (0 : Fin 8) else 0).getLsbD 0 = c
      rw [BitVec.getLsbD_or, entering_getLsbD c 0 0 (by decide)]
      simp
    · show (v <<< 1 ||| if c then bitMask (0 : Fin 8) else 0).getLsbD (k + 1) = v.getLsbD k
      rw [BitVec.getLsbD_or, shl_getLsbD v k hk, entering_getLsbD c 0 (k + 1) (by omega)]
      simp
  | ror =>
    have result : (accShift .ror v c).r = (if c then bitMask (7 : Fin 8) else 0) ||| v >>> 1 := by cases c <;> rfl
    refine ⟨rfl, ?_, fun k hk => ?_⟩
    · rw [result, BitVec.getLsbD_or, entering_getLsbD c 7 7 (by decide), shr_getLsbD, BitVec.getLsbD_of_ge v 8 le_rfl]
      simp
    · rw [result, BitVec.getLsbD_or, shr_getLsbD, entering_getLsbD c 7 k (by omega)]
      simp [show k ≠ 7 by omega]
  | inc => contradiction
  | dec => contradiction

/-! ## Stores and read-modify-writes into writable memory -/

theorem stored_unfaulted (a : Word) (v : Byte) (st : State) : unfaulted st (st.stored a v) := by simp [unfaulted]

/-- A store completes, and RAM holds its byte. -/
theorem exec_write {i : Instr} {op : WriteOp} {dst : MemOperand} {s : State} (hi : i.operation = .write op dst)
    (hw : s.writable (effectiveAddress dst s).1 = true) :
    ∃ t, exec i s = .next t ∧ unfaulted s t ∧ advances s t i.length ∧
      (s.memoryWf → s.isRam (effectiveAddress dst s).1 →
        t.peek (effectiveAddress dst s).1 = some (writeValue op s)) := by
  refine ⟨_, exec_of_go hi (storeAt_eq _ hw), by simp [unfaulted], ?_, fun wf ram => ?_⟩
  · rw [Instr.length_of_operation hi]
    rfl
  · exact State.stored_peek_same _ (effectiveAddress_memoryWf dst wf) (by simpa using ram)

/-- The byte written back is made of the byte read, A and the carry, which the Read leaves. -/
@[simp] theorem modified_readTarget (op : ModifyOp) (dst : MemOperand) (m : Byte) (st : State) :
    modified op m (readTarget dst st).st = modified op m st := by cases op <;> simp [modified]

/-- The state a read-modify-write completes with. -/
def modifyDone (op : ModifyOp) (dst : MemOperand) (s : State) : State :=
  (afterWrite op (modified op (readTarget dst s).m s)
    ((beforeWrite op (readTarget dst s).m (readTarget dst s).st).stored (effectiveAddress dst s).1
      (modified op (readTarget dst s).m s))).withPc (s.pcAfter ((s.pc.toNat : Int) + dst.length))

theorem beforeWrite_unfaulted (op : ModifyOp) (m : Byte) (st : State) : unfaulted st (beforeWrite op m st) := by
  cases op <;> exact ⟨rfl, rfl, rfl⟩

theorem afterWrite_unfaulted (op : ModifyOp) (r : Byte) (st : State) : unfaulted st (afterWrite op r st) := by
  cases op <;> exact ⟨rfl, rfl, rfl⟩

@[simp] theorem afterWrite_peek (op : ModifyOp) (r : Byte) (a : Word) (st : State) :
    (afterWrite op r st).peek a = st.peek a := by cases op <;> rfl

@[simp] theorem beforeWrite_memoryWf (op : ModifyOp) (m : Byte) (st : State) :
    (beforeWrite op m st).memoryWf = st.memoryWf := by cases op <;> rfl

theorem modifyDone_peek (op : ModifyOp) {dst : MemOperand} {s : State} (wf : s.memoryWf)
    (ram : s.isRam (effectiveAddress dst s).1) :
    (modifyDone op dst s).peek (effectiveAddress dst s).1 = some (modified op (readTarget dst s).m s) := by
  have bus := (readTarget_sameBus dst s).trans (beforeWrite_sameBus op (readTarget dst s).m (readTarget dst s).st)
  rw [modifyDone, State.withPc_peek, afterWrite_peek]
  apply State.stored_peek_same
  · rw [beforeWrite_memoryWf]
    exact readTarget_memoryWf dst wf
  · rw [bus.isRam]
    exact ram

/-- A read-modify-write completes, and RAM holds the byte written back. -/
theorem exec_modify {i : Instr} {op : ModifyOp} {dst : MemOperand} {s : State} (hi : i.operation = .modify op dst)
    (hw : s.writable (effectiveAddress dst s).1 = true) :
    exec i s = .next (modifyDone op dst s) ∧ unfaulted s (modifyDone op dst s) ∧
      advances s (modifyDone op dst s) i.length := by
  refine ⟨exec_of_go hi ?_, ?_, ?_⟩
  · rw [perform, performModify_eq hw, modified_readTarget]
    rfl
  · have read : unfaulted s (readTarget dst s).st := by simp [unfaulted]
    exact ((read.trans (beforeWrite_unfaulted ..)).trans (stored_unfaulted ..)).trans (afterWrite_unfaulted ..)
  · rw [Instr.length_of_operation hi]
    rfl

/-- One bit of the byte changed, and no other (R346). -/
theorem modifiedByte_getLsbD (n k : Fin 8) (on : Bool) (m : Byte) :
    (modifiedByte n on m).getLsbD k = if k = n then on else m.getLsbD k := by
  have bit : ∀ n k : Fin 8, (bitMask n).getLsbD k = decide (k = n) := by decide
  cases on with
  | true =>
    rw [modifiedByte, if_pos rfl, BitVec.getLsbD_or, bit]
    by_cases h : k = n <;> simp only [h, decide_true, decide_false, Bool.or_true, Bool.or_false, if_true, if_false]
  | false =>
    rw [modifiedByte, if_neg Bool.false_ne_true, BitVec.getLsbD_and, BitVec.getLsbD_not, bit, decide_eq_true k.isLt]
    by_cases h : k = n <;> simp [h]

end Sys2Proof.Machine

namespace Sys2Proof

open Sys2Proof.Machine Sys2Proof.Spec

/-- Settles O28: the transfers' own writes. -/
theorem transfersCopyRegisters : Obligations.TransfersCopyRegisters := by
  unfold Obligations.TransfersCopyRegisters
  exact fun i s => ⟨fun hi => exec_register hi ⟨rfl, nzOf_setNZ ..⟩, fun hi => exec_register hi ⟨rfl, nzOf_setNZ ..⟩,
    fun hi => exec_register hi ⟨rfl, nzOf_setNZ ..⟩, fun hi => exec_register hi ⟨rfl, nzOf_setNZ ..⟩,
    fun hi => exec_register hi ⟨rfl, nzOf_setNZ ..⟩, fun hi => exec_register hi ⟨rfl, rfl⟩⟩

/-- Settles O27: the byte written is the register's. -/
theorem storesWriteTheRegister : Obligations.StoresWriteTheRegister := by
  unfold Obligations.StoresWriteTheRegister
  intro i op dst s hi hw
  have value : storedValue op s = writeValue op s := by cases op <;> rfl
  rw [value]
  exact exec_write hi hw

/-- Settles O35: the register forms by their own writes, the memory forms by the byte written back. -/
theorem incrementsAndDecrements : Obligations.IncrementsAndDecrements := by
  unfold Obligations.IncrementsAndDecrements
  refine ⟨fun i s => ⟨fun hi => ?_, fun hi => ?_, fun hi => ?_, fun hi => ?_, fun hi => ?_, fun hi => ?_⟩, ?_⟩
  · exact exec_accumulator hi ⟨add_one_toNat s.a, nzOf_setNZ ..⟩
  · exact exec_accumulator hi ⟨sub_one_toNat s.a, nzOf_setNZ ..⟩
  · exact exec_register hi ⟨add_one_toNat s.x, nzOf_setNZ ..⟩
  · exact exec_register hi ⟨add_one_toNat s.y, nzOf_setNZ ..⟩
  · exact exec_register hi ⟨sub_one_toNat s.x, nzOf_setNZ ..⟩
  · exact exec_register hi ⟨sub_one_toNat s.y, nzOf_setNZ ..⟩
  · rintro i dst s r (⟨hi, hr⟩ | ⟨hi, hr⟩) hw
    · obtain rfl : r = (readTarget dst s).m + 1 := BitVec.eq_of_toNat_eq (hr.trans (add_one_toNat _).symm)
      obtain ⟨ht, clean, next⟩ := exec_modify hi hw
      exact ⟨_, ht, clean, next, nzOf_setNZ .., fun wf ram => modifyDone_peek .inc wf ram⟩
    · obtain rfl : r = (readTarget dst s).m - 1 := BitVec.eq_of_toNat_eq (hr.trans (sub_one_toNat _).symm)
      obtain ⟨ht, clean, next⟩ := exec_modify hi hw
      exact ⟨_, ht, clean, next, nzOf_setNZ .., fun wf ram => modifyDone_peek .dec wf ram⟩

/-- Settles O36: the shifted byte and its carry are `accShift`'s. -/
theorem shiftsOfTheAccumulator : Obligations.ShiftsOfTheAccumulator := by
  unfold Obligations.ShiftsOfTheAccumulator
  intro i op s hi hinc hdec
  have shifted := shifts_accShift hinc hdec s.a (s.flag .c)
  apply exec_accumulator hi
  cases op with
  | asl | lsr | rol | ror =>
    exact ⟨nzOf_setNZ .., by simpa [applyAcc, State.flag_setNZ, State.flag_withFlag] using shifted⟩
  | inc => contradiction
  | dec => contradiction

/-- Settles O37: the same shifts, of the byte read, with the carry written before the Write and N and Z after it. -/
theorem shiftsOfMemory : Obligations.ShiftsOfMemory := by
  unfold Obligations.ShiftsOfMemory
  intro i op dst s h hw
  have shifted : op ≠ .inc → op ≠ .dec → shifts op (readTarget dst s).m (s.flag .c)
      (accShift op (readTarget dst s).m (s.flag .c)).r (accShift op (readTarget dst s).m (s.flag .c)).c :=
    fun hinc hdec => shifts_accShift hinc hdec _ _
  rcases h with ⟨hi, rfl⟩ | ⟨hi, rfl⟩ | ⟨hi, rfl⟩ | ⟨hi, rfl⟩ <;> obtain ⟨ht, clean, next⟩ := exec_modify hi hw <;>
    refine ⟨_, _, ht, clean, next, nzOf_setNZ .., ?_, modifyDone_peek _⟩ <;>
    simpa [modifyDone, afterWrite, beforeWrite, modified, accShift, State.flag_setNZ, State.flag_withFlag] using shifted

/-- Settles O40: Z is written before the Write, from the byte read. -/
theorem testAndModifyBits : Obligations.TestAndModifyBits := by
  unfold Obligations.TestAndModifyBits
  rintro i dst s r (⟨hi, rfl⟩ | ⟨hi, rfl⟩) hw
  · obtain ⟨ht, clean, next⟩ := exec_modify hi hw
    exact ⟨_, ht, clean, next, by simp [modifyDone, afterWrite, beforeWrite],
      by simp [modifyDone, afterWrite, beforeWrite, State.flag_withP, getFlag_statusBitTest], modifyDone_peek .trb⟩
  · obtain ⟨ht, clean, next⟩ := exec_modify hi hw
    exact ⟨_, ht, clean, next, by simp [modifyDone, afterWrite, beforeWrite],
      by simp [modifyDone, afterWrite, beforeWrite, State.flag_withP, getFlag_statusBitTest], modifyDone_peek .tsb⟩

/-- Settles O41: the byte written back differs in bit n alone, and P is written by neither half. -/
theorem resetAndSetMemoryBit : Obligations.ResetAndSetMemoryBit := by
  unfold Obligations.ResetAndSetMemoryBit
  intro i n on z s hi hw
  obtain ⟨ht, clean, next⟩ := exec_modify hi hw
  have length : i.length = 2 := Instr.length_of_operation hi
  rw [length] at next
  refine ⟨_, modifiedByte n on (readTarget (.zp z) s).m, ht, clean, next, ?_, ?_, fun k hk => ?_, fun wf ram => ?_⟩
  · cases on <;> simp [modifyDone, afterWrite, beforeWrite]
  · rw [modifiedByte_getLsbD, if_pos rfl]
  · rw [modifiedByte_getLsbD, if_neg hk]
  · have peek := modifyDone_peek (if on then .smb n else .rmb n) (dst := .zp z) wf ram
    cases on <;> exact peek

/-- Settles O54: BRK with I set takes the branch that `BRK_MASKED` names. -/
theorem brkMasked : Obligations.BrkMasked := by
  unfold Obligations.BrkMasked
  intro i sig s hi masked
  refine ⟨fun mode => ?_, fun mode => ?_⟩
  · have passes : perform i.opcode (.brk sig) s = s.sequential 2 := by
      simp [perform, brk_eq, masked, mode]
    exact exec_of_go hi (passes.trans (s.sequential_eq 2))
  · have halts : perform i.opcode (.brk sig) s = (s.withFlag .b true).sequential 2 := by
      simp [perform, brk_eq, masked, mode]
    exact exec_sequential hi halts ⟨rfl, rfl, rfl⟩ rfl rfl
      ⟨by simp [State.flag_withFlag], rfl, by simpa [State.flag_withFlag] using masked⟩

/-- Settles O55: each latch is written before the step to the next instruction. -/
theorem waiStpNop : Obligations.WaiStpNop := by
  unfold Obligations.WaiStpNop
  exact fun i s => ⟨fun hi => exec_of_go hi ((s.withWaiting true).sequential_eq 1),
    fun hi => exec_of_go hi ((s.withStp true).sequential_eq 1), fun hi => exec_of_go hi (s.sequential_eq 1)⟩

/-- Settles O56: the flag and the value of each instruction are those of the list. -/
theorem flagInstructions : Obligations.FlagInstructions := by
  unfold Obligations.FlagInstructions
  intro i op f on s hi listed
  have written : flagWritten op = (f, on) ∧ f ≠ .u := by
    simp only [List.mem_cons, Prod.mk.injEq, List.not_mem_nil, or_false] at listed
    rcases listed with ⟨rfl, rfl, rfl⟩ | ⟨rfl, rfl, rfl⟩ | ⟨rfl, rfl, rfl⟩ | ⟨rfl, rfl, rfl⟩ | ⟨rfl, rfl, rfl⟩ |
      ⟨rfl, rfl, rfl⟩ | ⟨rfl, rfl, rfl⟩ <;> decide
  obtain ⟨written, hf⟩ := written
  have flow : perform i.opcode (.flag op) s = (s.withFlag f on).sequential 1 := by rw [perform, written]
  refine ⟨_, exec_of_go hi (flow.trans (State.sequential_eq 1 _)), ?_, fun g hg hu => ?_, ?_, rfl⟩
  · simp [State.flag_withFlag, hf]
  · simp [State.flag_withFlag, hg, hu]
  · simp [State.flag_withFlag]

end Sys2Proof
end

section
/-! Proofs about SetPC, the branches and the jumps (R24, R280 to R310). -/

namespace Sys2Proof.Machine

open Sys2Proof.Spec

theorem branchCond_eq_taken (op : BranchOp) (st : State) : branchCond op st = branchTaken op st := by
  cases op with
  | bpl => exact (beq_false _).symm
  | bvc => exact (beq_false _).symm
  | bcc => exact (beq_false _).symm
  | bne => exact (beq_false _).symm
  | bmi => exact (beq_true _).symm
  | bvs => exact (beq_true _).symm
  | bcs => exact (beq_true _).symm
  | beq => exact (beq_true _).symm
  | bra => rfl

theorem State.not_pcFits {st : State} {target : Int} (clamp : st.cfg.pcOverflow = .clamp) (below : target < 0) :
    ¬ st.pcFits target := fun fits => absurd (fits clamp) (by omega)

theorem branch_below {d : Byte} {st : State} (clamp : st.cfg.pcOverflow = .clamp)
    (below : (st.pc.toNat : Int) + 2 + s8 d < 0) :
    branch true d st = .raised (.pcRange ((st.pc.toNat : Int) + 2 + s8 d)) st :=
  State.setPC_of_not_fits (State.not_pcFits clamp below)

theorem branchBit_below {n : Nat} {want : Bool} {z d : Byte} {st : State}
    (taken : (st.memRead (zext z)).1.getLsbD n = want) (clamp : st.cfg.pcOverflow = .clamp)
    (below : (st.pc.toNat : Int) + 3 + s8 d < 0) :
    branchBit n want z d st = .raised (.pcRange ((st.pc.toNat : Int) + 3 + s8 d)) (st.memRead (zext z)).2 := by
  unfold branchBit
  rw [if_pos taken, State.memRead_pc]
  exact State.setPC_of_not_fits (State.not_pcFits (by simpa using clamp) below)

/-- An indirect jump lands at its pointer. -/
theorem exec_jumpThrough {i : Instr} {o : Operation} {s : State} {a : Word} (hi : i.operation = o)
    (h : perform i.opcode o s = .go ((s.memRead16 a).2.withPc (s.memRead16 a).1)) :
    ∃ t, exec i s = .next t ∧ unfaulted s t ∧ t.p = s.p ∧
      ∀ lo hi, s.peek a = some lo → s.peek (a + 1) = some hi → t.pc = wordOf hi lo :=
  ⟨_, exec_of_go hi h, by simp [unfaulted], by simp, fun _ _ lo hi => State.memRead16_of_peek lo hi⟩

end Sys2Proof.Machine

namespace Sys2Proof

open Sys2Proof.Machine Sys2Proof.Spec

/-- Settles O45: the three ranges of the target under clamp, and none under wrap. -/
theorem setPcClampsWrapsOrFaults : Obligations.SetPcClampsWrapsOrFaults := by
  unfold Obligations.SetPcClampsWrapsOrFaults
  intro s target
  refine ⟨fun wrap => ?_, fun clamp above => ?_, fun clamp low high => ?_, fun clamp below => ?_⟩
  · simp [State.setPC, wrap, State.withPc]
  · simp [State.setPC, clamp, above, State.withPc]
  · have inRange : (BitVec.ofInt 16 target).toNat = target := by
      rw [BitVec.toNat_ofInt]
      omega
    have reached := s.setPC_word (BitVec.ofInt 16 target)
    rw [inRange] at reached
    exact ⟨_, inRange, reached⟩
  · exact State.setPC_of_not_fits (State.not_pcFits clamp below)

/-- Settles O46: the condition of each branch is that of the list, and SetPC does the rest. -/
theorem relativeBranches : Obligations.RelativeBranches := by
  unfold Obligations.RelativeBranches
  intro i op d s hi
  have flow : perform i.opcode (.branch op d) s = branch (branchTaken op s) d s := by rw [perform, branchCond_eq_taken]
  refine ⟨fun taken fits => ?_, fun notTaken => ?_, fun taken clamp below => ?_⟩
  · rw [taken] at flow
    exact exec_of_go hi (flow.trans (branch_eq fun _ => fits))
  · rw [notTaken] at flow
    exact exec_of_go hi (flow.trans (branch_eq nofun))
  · rw [taken] at flow
    exact exec_of_raised hi (flow.trans (branch_below clamp below))

/-- Settles O47: the byte is read first, then the same three cases of SetPC. -/
theorem branchesOnABit : Obligations.BranchesOnABit := by
  unfold Obligations.BranchesOnABit
  intro i n want z d s hi
  refine ⟨fun v => State.memRead_of_peek, fun taken fits => ?_, fun notTaken => ?_, fun taken clamp below => ?_⟩
  · refine ⟨_, exec_of_go hi (branchBit_eq n want z d fun _ => fits), by simp [unfaulted], by simp, ?_⟩
    rw [if_pos taken]
    rfl
  · refine ⟨_, exec_of_go hi (branchBit_eq n want z d fun taken => absurd taken notTaken), by simp [unfaulted],
      by simp, ?_⟩
    rw [if_neg notTaken]
    rfl
  · exact ⟨_, exec_of_raised hi (branchBit_below taken clamp below), rfl, rfl, by simp, by simp, by simp⟩

/-- Settles O48: a pointer is two bytes in sequence, so the high byte crosses a page with the address. -/
theorem jumps : Obligations.Jumps := by
  unfold Obligations.Jumps
  exact fun i a s => ⟨fun hi => exec_of_go hi (jmp_eq a s), fun hi => exec_jumpThrough hi (jmpIndirect_eq a s),
    fun hi => exec_jumpThrough hi (jmpIndexedIndirect_eq a s)⟩

end Sys2Proof
end

section
/-! Proofs about the stack: what a sequence of pushes leaves, the push and pull instructions, calls and returns (R20,
R260 to R268, R311 to R313). -/

namespace Sys2Proof.Machine

open Sys2Proof.Spec

/-! ## Stack slots -/

theorem sub_one_sub_ofNat (s : Byte) (j : Nat) : s - 1#8 - BitVec.ofNat 8 j = s - BitVec.ofNat 8 (j + 1) := by
  rw [Nat.add_comm j 1, BitVec.ofNat_add]
  exact sub_sub s 1 _

theorem sub_one_sub_one (s : Byte) : s - 1 - 1 = s - 2 := sub_one_sub_ofNat s 1

theorem sub_ofNat_zero (s : Byte) : s - BitVec.ofNat 8 0 = s := BitVec.sub_zero s

theorem add_one_add_one (s : Byte) : s + 1#8 + 1#8 = s + 2#8 := add_assoc s 1 1

theorem sub_two_add_one (s : Byte) : s - 2#8 + 1#8 = s - 1#8 := sub_add s 2 1

/-- Slots fewer than 256 apart differ. -/
theorem stackAddr_sub_ne (s : Byte) {j k : Nat} (hj : j < 256) (hk : k < 256) (hne : j ≠ k) :
    stackAddr (s - BitVec.ofNat 8 j) ≠ stackAddr (s - BitVec.ofNat 8 k) := by
  intro h
  have offsets : BitVec.ofNat 8 j = BitVec.ofNat 8 k := sub_right_injective (stackAddr_injective h)
  have := congrArg BitVec.toNat offsets
  rw [BitVec.toNat_ofNat, BitVec.toNat_ofNat] at this
  omega

/-- No slot lies above the stack page. -/
theorem ne_stackAddr_of_lt {a : Word} (h : 0x01FF < a.toNat) (k : Byte) : a ≠ stackAddr k := by
  rintro rfl
  rw [stackAddr_toNat] at h
  omega

/-! ## A sequence of pushes -/

/-- The state after pushing the bytes in order, each Write made or not. -/
def State.pushed : List Byte → State → State
  | [], st => st
  | v :: rest, st => State.pushed rest ((st.stored (stackAddr st.s) v).withS (st.s - 1))

/-- Pushes write S, the tick counter and the devices. -/
theorem State.pushed_eq (bytes : List Byte) (st : State) : st.pushed bytes =
    { st with s := st.s - BitVec.ofNat 8 bytes.length, ticks := st.ticks + bytes.length,
              devices := (st.pushed bytes).devices } := by
  induction bytes generalizing st with
  | nil => simp [State.pushed]
  | cons v rest ih => rw [State.pushed, ih]; simp [sub_one_sub_ofNat, Nat.add_assoc, Nat.add_comm 1]

section
variable (bytes : List Byte) (st : State)

@[simp] theorem State.pushed_a : (st.pushed bytes).a = st.a := by rw [State.pushed_eq]
@[simp] theorem State.pushed_x : (st.pushed bytes).x = st.x := by rw [State.pushed_eq]
@[simp] theorem State.pushed_y : (st.pushed bytes).y = st.y := by rw [State.pushed_eq]
@[simp] theorem State.pushed_s : (st.pushed bytes).s = st.s - BitVec.ofNat 8 bytes.length := by rw [State.pushed_eq]
@[simp] theorem State.pushed_pc : (st.pushed bytes).pc = st.pc := by rw [State.pushed_eq]
@[simp] theorem State.pushed_p : (st.pushed bytes).p = st.p := by rw [State.pushed_eq]
@[simp] theorem State.pushed_stopped : (st.pushed bytes).stopped = st.stopped := by rw [State.pushed_eq]
@[simp] theorem State.pushed_faultReason : (st.pushed bytes).faultReason = st.faultReason := by rw [State.pushed_eq]
@[simp] theorem State.pushed_waiting : (st.pushed bytes).waiting = st.waiting := by rw [State.pushed_eq]
@[simp] theorem State.pushed_stp : (st.pushed bytes).stp = st.stp := by rw [State.pushed_eq]
@[simp] theorem State.pushed_nmiPending : (st.pushed bytes).nmiPending = st.nmiPending := by rw [State.pushed_eq]
@[simp] theorem State.pushed_irqPending : (st.pushed bytes).irqPending = st.irqPending := by rw [State.pushed_eq]
@[simp] theorem State.pushed_ticks : (st.pushed bytes).ticks = st.ticks + bytes.length := by rw [State.pushed_eq]
@[simp] theorem State.pushed_events : (st.pushed bytes).events = st.events := by rw [State.pushed_eq]
@[simp] theorem State.pushed_flag (f : Flag) : (st.pushed bytes).flag f = st.flag f := by rw [State.pushed_eq]; rfl

theorem State.pushed_sameBus : st.SameBus (st.pushed bytes) := by
  induction bytes generalizing st with
  | nil => exact ⟨rfl, rfl⟩
  | cons v rest ih => exact State.SameBus.trans (st.stored_sameBus (stackAddr st.s) v) (ih _)

end

/-- A byte outside the slots pushed to reads as before. -/
theorem State.pushed_peek_other {bytes : List Byte} {st : State} {a : Word}
    (h : ∀ j, j < bytes.length → a ≠ stackAddr (st.s - BitVec.ofNat 8 j)) : (st.pushed bytes).peek a = st.peek a := by
  induction bytes generalizing st with
  | nil => rfl
  | cons v rest ih =>
    have below : ∀ j, j < rest.length → a ≠ stackAddr (st.s - 1#8 - BitVec.ofNat 8 j) := fun j hj => by
      rw [sub_one_sub_ofNat]
      exact h (j + 1) (Nat.succ_lt_succ hj)
    have first : a ≠ stackAddr st.s := by simpa using h 0 (Nat.succ_pos _)
    rw [State.pushed, ih (st := (st.stored (stackAddr st.s) v).withS (st.s - 1)) below, State.withS_peek,
      State.stored_peek_other v st first]

/-- Each pushed byte stands in its slot of RAM. -/
theorem State.pushed_peek_slot {bytes : List Byte} {st : State} {j : Nat} {v : Byte} (few : bytes.length ≤ 256)
    (hv : bytes[j]? = some v) (wf : st.memoryWf) (ram : st.isRam (stackAddr (st.s - BitVec.ofNat 8 j))) :
    (st.pushed bytes).peek (stackAddr (st.s - BitVec.ofNat 8 j)) = some v := by
  induction bytes generalizing st j with
  | nil => simp at hv
  | cons b rest ih =>
    rw [List.length_cons] at few
    cases j with
    | zero =>
      obtain rfl : b = v := by simpa using hv
      rw [sub_ofNat_zero] at ram ⊢
      rw [State.pushed, State.pushed_peek_other, State.withS_peek, State.stored_peek_same b wf ram]
      intro k hk
      have distinct := stackAddr_sub_ne st.s (j := 0) (k := k + 1) (by omega) (by omega) (by omega)
      rwa [sub_ofNat_zero, ← sub_one_sub_ofNat] at distinct
    | succ j =>
      rw [← sub_one_sub_ofNat] at ram ⊢
      exact ih (st := (st.stored (stackAddr st.s) b).withS (st.s - 1)) (by omega) (by simpa using hv)
        (State.stored_memoryWf _ _ wf) (by simpa using ram)

/-! ## The stack instructions -/

theorem pushValue_eq (op : PushOp) (st : State) : pushValue op st = pushedValue op st := by cases op <;> rfl

theorem applyPull_unfaulted (op : PullOp) (v : Byte) (st : State) : unfaulted st (applyPull op v st) := by
  cases op <;> exact ⟨rfl, rfl, rfl⟩

theorem jsr_eq_pushed {a : Word} {st : State} (h1 : st.writable (stackAddr st.s) = true)
    (h2 : st.writable (stackAddr (st.s - 1)) = true) :
    jsr a st = .go ((st.pushed [hiByte (st.pc + 2), loByte (st.pc + 2)]).withPc a) := jsr_eq a h1 h2

theorem State.pushedWord_peek_high {st : State} (w : Word) (wf : st.memoryWf) (ram : st.isRam (stackAddr st.s)) :
    (st.pushed [hiByte w, loByte w]).peek (stackAddr st.s) = some (hiByte w) := by
  have slot := State.pushed_peek_slot (st := st) (bytes := [hiByte w, loByte w]) (j := 0) (by simp) rfl wf
  rw [sub_ofNat_zero] at slot
  exact slot ram

theorem State.pushedWord_peek_low {st : State} (w : Word) (wf : st.memoryWf) (ram : st.isRam (stackAddr (st.s - 1))) :
    (st.pushed [hiByte w, loByte w]).peek (stackAddr (st.s - 1)) = some (loByte w) :=
  State.pushed_peek_slot (bytes := [hiByte w, loByte w]) (j := 1) (by simp) rfl wf ram

theorem State.pcAfter_word (w : Word) (st : State) : st.pcAfter (w.toNat : Int) = w :=
  have reached := (State.setPC_of_fits (st.pcFits_of_nonneg (by omega))).symm.trans (st.setPC_word w)
  congrArg State.pc (Flow.go.inj reached)

/-- The return address that RTS resumes one past. -/
theorem rts_pc {st : State} {lo hi : Byte} (hl : st.peek (stackAddr (st.s + 1)) = some lo)
    (hh : st.peek (stackAddr (st.s + 2)) = some hi) : st.pullWord.1 = wordOf hi lo :=
  State.pullWord_of_peek hl ((congrArg (fun k => st.peek (stackAddr k)) (add_one_add_one st.s)).trans hh)

end Sys2Proof.Machine

namespace Sys2Proof

open Sys2Proof.Machine Sys2Proof.Spec

/-- Settles O43: one push, of the byte of the list. -/
theorem pushes : Obligations.Pushes := by
  unfold Obligations.Pushes
  intro i op s hi hw
  have flow : perform i.opcode (.push op) s =
      .go ((s.pushed [pushedValue op s]).withPc (s.pcAfter (s.pc.toNat + 1))) := by
    rw [perform, pushByte_eq _ hw, pushValue_eq]
    rfl
  exact ⟨_, exec_of_go hi flow, ⟨rfl, rfl, rfl⟩, rfl, rfl, rfl, State.stored_peek_same (st := s) _⟩

/-- Settles O44: each pull writes the register it names, and PLP all of P but B and U. -/
theorem pulls : Obligations.Pulls := by
  unfold Obligations.Pulls
  intro i op s hi
  have clean : unfaulted s s.pull.2 := by simp [unfaulted]
  apply exec_sequential (u := applyPull op s.pull.1 s.pull.2) hi rfl (clean.trans (applyPull_unfaulted ..))
  · cases op <;> simp [applyPull]
  · cases op <;> simp [applyPull]
  · refine ⟨by cases op <;> simp [applyPull], ?_, ?_, ?_, ?_, fun v => State.pull_of_peek⟩
    · rintro rfl
      exact ⟨rfl, nzOf_setNZ ..⟩
    · rintro rfl
      exact ⟨rfl, nzOf_setNZ ..⟩
    · rintro rfl
      exact ⟨rfl, nzOf_setNZ ..⟩
    · rintro rfl
      exact pulledStatus_hardwired _

/-- Settles O49: two pushes, and the jump. -/
theorem jsrCalls : Obligations.JsrCalls := by
  unfold Obligations.JsrCalls
  intro i a s hi h1 h2
  refine ⟨_, exec_of_go hi (jsr_eq_pushed h1 h2), by simp [unfaulted], rfl, by simp, by simp, fun wf ram => ?_,
    fun wf ram => ?_⟩
  · rw [State.withPc_peek, State.pushedWord_peek_high _ wf ram]
  · rw [State.withPc_peek, State.pushedWord_peek_low _ wf ram]

/-- Settles O50: two pulls, and SetPC one past the pulled address. -/
theorem rtsReturns : Obligations.RtsReturns := by
  unfold Obligations.RtsReturns
  intro i s hi
  refine ⟨_, exec_of_go hi (rts_eq s), by simp [unfaulted], by simp [add_one_add_one], by simp, fun lo hi hl hh => ?_⟩
  rw [State.withPc_pc, rts_pc hl hh]

/-- Settles O51: RTS pulls the two bytes that JSR left in RAM, and these are the address of JSR's last byte. -/
theorem rtsUndoesJsr : Obligations.RtsUndoesJsr := by
  unfold Obligations.RtsUndoesJsr
  intro i j a s t hi hj wf ram1 ram2 room ht
  have called := exec_of_go hi (jsr_eq_pushed (a := a) (State.writable_of_isRam ram1) (State.writable_of_isRam ram2))
  obtain rfl := Host.Outcome.next.inj (ht.symm.trans called)
  have pulled : ((s.pushed [hiByte (s.pc + 2), loByte (s.pc + 2)]).withPc a).pullWord.1 = s.pc + 2 := by
    refine (State.pullWord_of_peek (lo := loByte (s.pc + 2)) (hi := hiByte (s.pc + 2)) ?_ ?_).trans (wordOf_bytes _)
    · simpa [sub_two_add_one] using State.pushedWord_peek_low (s.pc + 2) wf ram2
    · simpa [sub_two_add_one] using State.pushedWord_peek_high (s.pc + 2) wf ram1
  refine ⟨_, exec_of_go hj (rts_eq _), by simp [unfaulted], ?_, ?_, by simp, by simp [sameAXY]⟩
  · rw [State.withPc_pc, pulled]
    have next : ((s.pc + 2).toNat : Int) + 1 = ((s.pc + 3).toNat : Int) := by bv_omega
    rw [next, State.pcAfter_word]
  · simp [sub_two_add_one]

/-- Settles O52: three pulls, the first of P. -/
theorem rtiRestores : Obligations.RtiRestores := by
  unfold Obligations.RtiRestores
  intro i s hi
  have status : ((s.pull.2.withP (pulledStatus s.pull.1)).pullWord.2.withPc
      (s.pull.2.withP (pulledStatus s.pull.1)).pullWord.1).p = pulledStatus s.pull.1 := by
    rw [State.withPc_p, State.pullWord_p, State.withP_p, pulledStatus_hardwired]
  refine ⟨_, exec_of_go hi (rti_eq s), by simp [unfaulted], ?_, ?_, ?_, fun v hv => ?_, fun lo hi hl hh => ?_⟩
  · simp only [State.withPc_s, State.pullWord_s, State.withP_s, State.pull_s]
    rw [add_assoc, add_assoc]
    rfl
  · exact (congrArg (getFlag .b) status).trans (getFlag_pulledStatus .b _)
  · exact (congrArg (getFlag .u) status).trans (getFlag_pulledStatus .u _)
  · rw [status, State.pull_of_peek hv]
    rfl
  · have second : s.s + 1 + 1 = s.s + 2 := add_assoc ..
    have third : s.s + 1 + 1 + 1 = s.s + 3 := by rw [add_assoc, add_assoc]; rfl
    apply State.pullWord_of_peek
    · simpa only [State.withP_peek, State.pull_peek, State.withP_s, State.pull_s, second] using hl
    · simpa only [State.withP_peek, State.pull_peek, State.withP_s, State.pull_s, third] using hh

end Sys2Proof
end

section
/-! Proofs about the entries that save PC and P on the stack, and about every Write that a read-only device refuses
(R430, R500 to R512, R530). -/

namespace Sys2Proof.Machine

open Sys2Proof.Spec

/-! ## Entering an exception -/

/-- The bytes an entry pushes: the return address and the copy of P, with B already set by BRK (R430, R530). -/
def Entry.pushes (e : Entry) (st : State) : List Byte :=
  [hiByte (e.returnAddress st), loByte (e.returnAddress st), e.statusCopy (e.markBreak st).p]

theorem Entry.saved_eq (e : Entry) (st : State) : e.saved st = e.markBreak (st.pushed (e.pushes st)) := by
  cases e <;> rfl

/-- The state in which the entry's handler begins. -/
def Entry.entered (e : Entry) (st : State) : State :=
  ((e.mask (e.saved st)).memRead16 e.vector).2.withPc ((e.mask (e.saved st)).memRead16 e.vector).1

section
variable (e : Entry) (st : State)

theorem Entry.mask_saved_peek (a : Word) : (e.mask (e.saved st)).peek a = (st.pushed (e.pushes st)).peek a := by
  rw [e.saved_eq]
  cases e <;> rfl

theorem Entry.entered_peek (a : Word) : (e.entered st).peek a = (st.pushed (e.pushes st)).peek a := by
  rw [Entry.entered, State.withPc_peek, State.memRead16_peek, e.mask_saved_peek]

theorem Entry.entered_unfaulted : unfaulted st (e.entered st) := by
  rw [Entry.entered, e.saved_eq]
  cases e <;> simp [unfaulted, Entry.mask, Entry.markBreak]

theorem Entry.entered_sameAXY : sameAXY st (e.entered st) := by
  rw [Entry.entered, e.saved_eq]
  cases e <;> simp [sameAXY, Entry.mask, Entry.markBreak]

theorem Entry.entered_s : (e.entered st).s = st.s - 3 := by
  rw [Entry.entered, e.saved_eq]
  cases e <;> simp [Entry.mask, Entry.markBreak, Entry.pushes]

theorem Entry.entered_ticks : (e.entered st).ticks = st.ticks + 5 := by
  rw [Entry.entered, e.saved_eq]
  cases e <;> simp [Entry.mask, Entry.markBreak, Entry.pushes, Nat.add_assoc]

theorem Entry.entered_sameNVZC : sameNVZC st (e.entered st) := by
  rw [Entry.entered, e.saved_eq]
  cases e <;> simp [sameNVZC, Entry.mask, Entry.markBreak, State.flag_withFlag]

/-- I is set and D cleared; B tells a BRK from an interrupt. -/
theorem Entry.entered_flags : (e.entered st).flag .i = true ∧ (e.entered st).flag .d = false ∧
    (e.entered st).flag .b = decide (e = .brk) := by
  rw [Entry.entered, e.saved_eq]
  cases e <;> simp [Entry.mask, Entry.markBreak, State.flag_withFlag]

theorem Entry.entered_stp : (e.entered st).stp = st.stp := by
  rw [Entry.entered, e.saved_eq]
  cases e <;> simp [Entry.mask, Entry.markBreak]

theorem Entry.entered_nmiPending : (e.entered st).nmiPending = st.nmiPending := by
  rw [Entry.entered, e.saved_eq]
  cases e <;> simp [Entry.mask, Entry.markBreak]

theorem Entry.entered_irqPending : (e.entered st).irqPending = st.irqPending := by
  rw [Entry.entered, e.saved_eq]
  cases e <;> simp [Entry.mask, Entry.markBreak]

end

/-- An interrupt lets a waiting core go on. -/
theorem Entry.entered_waiting {e : Entry} (he : e ≠ .brk) (st : State) : (e.entered st).waiting = false := by
  rw [Entry.entered]
  cases e with
  | brk => contradiction
  | irq => simp [Entry.mask]
  | nmi => simp [Entry.mask]

/-- The vector lies above the stack page, so the pushes leave it. -/
theorem Entry.entered_pc {e : Entry} {st : State} {lo hi : Byte} (hl : st.peek e.vector = some lo)
    (hh : st.peek (e.vector + 1) = some hi) : (e.entered st).pc = wordOf hi lo := by
  have above : 0x01FF < e.vector.toNat ∧ 0x01FF < (e.vector + 1).toNat := by cases e <;> decide
  apply State.memRead16_of_peek
  · rw [e.mask_saved_peek, State.pushed_peek_other fun j _ => ne_stackAddr_of_lt above.1 _, hl]
  · rw [e.mask_saved_peek, State.pushed_peek_other fun j _ => ne_stackAddr_of_lt above.2 _, hh]

/-- Each saved byte stands in its slot of RAM. -/
theorem Entry.entered_peek_slot {e : Entry} {st : State} {j : Nat} {v : Byte} (hv : (e.pushes st)[j]? = some v)
    (wf : st.memoryWf) (ram : st.isRam (stackAddr (st.s - BitVec.ofNat 8 j))) :
    (e.entered st).peek (stackAddr (st.s - BitVec.ofNat 8 j)) = some v := by
  rw [e.entered_peek]
  exact State.pushed_peek_slot (by simp [Entry.pushes]) hv wf ram

/-- Every byte outside the three slots reads as before. -/
theorem Entry.entered_peek_other (e : Entry) {st : State} {a : Word} (n0 : a ≠ stackAddr st.s)
    (n1 : a ≠ stackAddr (st.s - 1)) (n2 : a ≠ stackAddr (st.s - 2)) : (e.entered st).peek a = st.peek a := by
  rw [e.entered_peek]
  refine State.pushed_peek_other fun j hj => ?_
  replace hj : j < 3 := hj
  match j, hj with
  | 0, _ => rwa [sub_ofNat_zero]
  | 1, _ => exact n1
  | 2, _ => exact n2

theorem State.takeException_entered (e : Entry) {st : State} (h1 : st.writable (stackAddr st.s) = true)
    (h2 : st.writable (stackAddr (st.s - 1)) = true) (h3 : st.writable (stackAddr (st.s - 2)) = true) :
    st.takeException e = .go (e.entered st) :=
  State.takeException_eq e h1 h2 (by rwa [sub_one_sub_one])

/-! ## A Step that services an interrupt -/

theorem State.action_of_pending {s : State} {e : Entry} (running : s.stopped = false) (started : s.stp = false)
    (pending : pendingEntry s = some e) : s.action = .service e := by
  unfold pendingEntry at pending
  split at pending
  next nmi =>
    cases pending
    simp [State.action, State.nmiServiceable, running, started, nmi]
  next nmi =>
    split at pending
    next irq =>
      cases pending
      simp [State.action, State.nmiServiceable, State.irqServiceable, running, started, nmi, irq]
    next => cases pending

theorem pendingEntry_ne_brk {s : State} {e : Entry} (pending : pendingEntry s = some e) : e ≠ .brk := by
  rintro rfl
  unfold pendingEntry at pending
  split at pending
  · simp at pending
  · split at pending <;> simp at pending

theorem Entry.markBreak_of_interrupt {e : Entry} (he : e ≠ .brk) (st : State) : e.markBreak st = st := by
  cases e with
  | brk => contradiction
  | irq => rfl
  | nmi => rfl

section
variable (e : Entry) (st : State)

@[simp] theorem State.acknowledge_a : (st.acknowledge e).a = st.a := by cases e <;> rfl
@[simp] theorem State.acknowledge_x : (st.acknowledge e).x = st.x := by cases e <;> rfl
@[simp] theorem State.acknowledge_y : (st.acknowledge e).y = st.y := by cases e <;> rfl
@[simp] theorem State.acknowledge_s : (st.acknowledge e).s = st.s := by cases e <;> rfl
@[simp] theorem State.acknowledge_pc : (st.acknowledge e).pc = st.pc := by cases e <;> rfl
@[simp] theorem State.acknowledge_p : (st.acknowledge e).p = st.p := by cases e <;> rfl
@[simp] theorem State.acknowledge_stopped : (st.acknowledge e).stopped = st.stopped := by cases e <;> rfl
@[simp] theorem State.acknowledge_faultReason : (st.acknowledge e).faultReason = st.faultReason := by cases e <;> rfl
@[simp] theorem State.acknowledge_waiting : (st.acknowledge e).waiting = st.waiting := by cases e <;> rfl
@[simp] theorem State.acknowledge_stp : (st.acknowledge e).stp = st.stp := by cases e <;> rfl
@[simp] theorem State.acknowledge_ticks : (st.acknowledge e).ticks = st.ticks := by cases e <;> rfl
@[simp] theorem State.acknowledge_events : (st.acknowledge e).events = st.events := by cases e <;> rfl
@[simp] theorem State.acknowledge_mapWellFormed :
    (st.acknowledge e).mapWellFormed = st.mapWellFormed := by cases e <;> rfl
@[simp] theorem State.acknowledge_memoryWf : (st.acknowledge e).memoryWf = st.memoryWf := by cases e <;> rfl
@[simp] theorem State.acknowledge_peek (a : Word) : (st.acknowledge e).peek a = st.peek a := by cases e <;> rfl
@[simp] theorem State.acknowledge_writable (a : Word) :
    (st.acknowledge e).writable a = st.writable a := by cases e <;> rfl
@[simp] theorem State.acknowledge_isRam (a : Word) : (st.acknowledge e).isRam a = st.isRam a := by cases e <;> rfl
@[simp] theorem State.acknowledge_flag (f : Flag) : (st.acknowledge e).flag f = st.flag f := by cases e <;> rfl

end

/-- The serviced latch is cleared and the other kept. -/
theorem State.acknowledge_latches (e : Entry) (st : State) :
    (e = .nmi → (st.acknowledge e).nmiPending = false ∧ (st.acknowledge e).irqPending = st.irqPending) ∧
      (e = .irq → (st.acknowledge e).irqPending = false ∧ (st.acknowledge e).nmiPending = st.nmiPending) := by
  cases e with
  | brk => exact ⟨nofun, nofun⟩
  | irq => exact ⟨nofun, fun _ => ⟨rfl, rfl⟩⟩
  | nmi => exact ⟨fun _ => ⟨rfl, rfl⟩, nofun⟩

theorem step_of_pending {s : State} {e : Entry} (running : s.stopped = false) (started : s.stp = false)
    (pending : pendingEntry s = some e) : step s = ((s.acknowledge e).takeException e).outcome := by
  unfold step
  rw [State.action_of_pending running started pending]
  rfl

/-! ## Refused Writes -/

/-- A refused Write leaves the tick alone behind it. -/
theorem State.SameBus.stored_refused {s u : State} (same : s.SameBus u) (wf : s.mapWellFormed = true)
    {a : Word} (v : Byte) (refused : s.writable a = false) : u.stored a v = u.tick :=
  State.stored_of_refused v (State.selected_length (same.mapWellFormed.trans wf) a) ((same.writable a).trans refused)

/-- The state a refused push ends in: the pushes before it made, its tick counted, P as the entry left it, and the fault
latched. -/
def State.pushFaulted (bytes : List Byte) (k : Nat) (p : Byte) (s : State) : State :=
  State.latch (.writeProtect (stackAddr (s.s - BitVec.ofNat 8 k))) { s.pushed (bytes.take k) with p := p }.tick

theorem State.pushFaulted_refused {bytes : List Byte} {k : Nat} {s : State} (few : bytes.length ≤ 256)
    (refused : refusedAt bytes k s) (p : Byte) : pushRefused bytes k s (s.pushFaulted bytes k p) := by
  obtain ⟨inside, -, -⟩ := refused
  have made : (bytes.take k).length = k := List.length_take_of_le inside.le
  have peek : ∀ a, (s.pushFaulted bytes k p).peek a = (s.pushed (bytes.take k)).peek a := fun a => rfl
  refine ⟨⟨rfl, rfl, ?_, ?_⟩, ⟨?_, ?_, ?_⟩, ?_, ?_, ?_, ?_, fun j v hj hv wf ram => ?_, fun a outside => ?_⟩
  · simp [State.pushFaulted]
  · simp [State.pushFaulted]
  · simp [State.pushFaulted]
  · simp [State.pushFaulted]
  · simp [State.pushFaulted]
  · simp [State.pushFaulted, made]
  · simp [State.pushFaulted, made]
  · simp [State.pushFaulted]
  · simp [State.pushFaulted]
  · rw [peek]
    exact State.pushed_peek_slot (by omega) ((List.getElem?_take_of_lt hj).trans hv) wf ram
  · rw [peek]
    exact State.pushed_peek_other fun j hj => outside j (by omega)

section
variable {st : State} (wf : st.mapWellFormed = true)
include wf

theorem pushByte_faulted {v : Byte} (refused : refusedAt [v] 0 st) :
    (pushByte v st).final = st.pushFaulted [v] 0 st.p := by
  obtain ⟨-, -, refused⟩ := refused
  rw [sub_ofNat_zero] at refused
  rw [pushByte_of_refused v refused, (State.SameBus.refl st).stored_refused wf v refused]
  simp [State.pushFaulted, State.pushed]

theorem State.pushWord_faulted {w : Word} {k : Nat} {next : State → Flow}
    (refused : refusedAt [hiByte w, loByte w] k st) :
    ((st.pushWord w).andThen next).final = st.pushFaulted [hiByte w, loByte w] k st.p := by
  obtain ⟨inside, before, refused⟩ := refused
  match k with
  | 0 =>
    rw [sub_ofNat_zero] at refused
    rw [State.pushWord_of_refused_first w refused, (State.SameBus.refl st).stored_refused wf _ refused]
    simp [State.pushFaulted, State.pushed]
  | 1 =>
    have first := before 0 (by decide)
    rw [sub_ofNat_zero] at first
    have refused : st.writable (stackAddr (st.s - 1)) = false := refused
    have same : st.SameBus ((st.stored (stackAddr st.s) (hiByte w)).withS (st.s - 1)) := st.stored_sameBus _ _
    rw [State.pushWord_of_refused_second w first refused, same.stored_refused wf _ refused]
    rfl

theorem State.takeException_faulted {e : Entry} {k : Nat} (refused : refusedAt (e.pushes st) k st) :
    (st.takeException e).final =
      st.pushFaulted (e.pushes st) k (if k = 2 then (e.markBreak st).p else st.p) := by
  obtain ⟨inside, before, refused⟩ := refused
  match k with
  | 0 => exact State.pushWord_faulted wf (k := 0) ⟨by simp, nofun, refused⟩
  | 1 => exact State.pushWord_faulted wf (k := 1) ⟨by simp, before, refused⟩
  | 2 =>
    have first := before 0 (by decide)
    rw [sub_ofNat_zero] at first
    have refused : st.writable (stackAddr (st.s - 1 - 1)) = false := by rwa [sub_one_sub_one]
    have same : st.SameBus (e.beforeStatus st) := by
      have pushed := st.pushed_sameBus [hiByte (e.returnAddress st), loByte (e.returnAddress st)]
      cases e <;> exact pushed
    rw [State.takeException_of_refused_third e first (before 1 (by decide)) refused, same.stored_refused wf _ refused,
      sub_one_sub_one]
    cases e <;> rfl

end

/-- Where a Write is refused in some state, one in a state with the same bus latches WriteProtect and its tick. -/
theorem exec_of_refused {i : Instr} {o : Operation} {s u : State} {a : Word} {v : Byte} (hi : i.operation = o)
    (wf : s.mapWellFormed = true) (refused : s.writable a = false) (same : s.SameBus u)
    (h : perform i.opcode o s = .raised (.writeProtect a) (u.stored a v)) :
    exec i s = .next (u.tick.latch (.writeProtect a)) := by
  rw [same.stored_refused wf v refused] at h
  exact exec_of_raised hi h

/-- Before its Write a shift has put the bit shifted out in C, TRB and TSB have written Z, and nothing else changed. -/
theorem beforeWrite_flags (op : ModifyOp) (m : Byte) (st : State) :
    (op ∈ [.asl, .rol] → (beforeWrite op m st).flag .c = m.getLsbD 7) ∧
    (op ∈ [.lsr, .ror] → (beforeWrite op m st).flag .c = m.getLsbD 0) ∧
    (op ∈ [.trb, .tsb] → (beforeWrite op m st).flag .z = decide (st.a &&& m = 0)) ∧
    (op ∉ [.asl, .rol, .lsr, .ror] → (beforeWrite op m st).flag .c = st.flag .c) ∧
    (op ∉ [.trb, .tsb] → (beforeWrite op m st).flag .z = st.flag .z) ∧
    (∀ f, f ≠ .c → f ≠ .z → f ≠ .u → (beforeWrite op m st).flag f = st.flag f) ∧
    (st.flag .u = true → (beforeWrite op m st).flag .u = true) := by
  cases op with
  | asl | rol | lsr | ror =>
    simp +contextual [beforeWrite, State.flag_withFlag, aslByte, rolByte, lsrByte, rorByte]
  | trb | tsb => simp +contextual [beforeWrite, State.flag_withP, getFlag_statusBitTest, State.getFlag_p]
  | inc | dec | rmb | smb => simp [beforeWrite]

theorem beforeWrite_eq (op : ModifyOp) (m : Byte) (st : State) :
    beforeWrite op m st = { st with p := (beforeWrite op m st).p } := by cases op <;> rfl

theorem effectiveAddress_ticks (dst : MemOperand) (s : State) :
    (effectiveAddress dst s).2.ticks + dst.length + 1 = s.ticks + modeTicks dst := by
  rw [((Progress.refl s []).effectiveAddress dst).ticks]
  cases dst <;> simp [MemOperand.length, modeTicks]

theorem readTarget_ticks (dst : MemOperand) (s : State) :
    (readTarget dst s).st.ticks + dst.length = s.ticks + modeTicks dst := by
  rw [← effectiveAddress_ticks, readTarget, State.memRead_ticks]
  omega

theorem exec_final {i : Instr} {o : Operation} {s t : State} (hi : i.operation = o)
    (h : (perform i.opcode o s).final = t) : exec i s = .next t := by
  rw [exec_eq_perform, hi, Flow.outcome_eq, h]

/-- BRK pushes P with bits 4 and 5 set. -/
theorem setFlag_b_hardwired (p : Byte) : setFlag .b true p ||| 0x20 = p ||| 0x30 := BitVec.or_assoc p 0x10 0x20

theorem Entry.brk_pushes (s : State) : Entry.brk.pushes s =
    [hiByte (s.pc + s.cfg.brkReturnOffset.value), loByte (s.pc + s.cfg.brkReturnOffset.value), s.p ||| 0x30] := by
  have copy : (setFlag .b true s.p ||| 0x20) ||| 0x30 = s.p ||| 0x30 := by
    rw [setFlag_b_hardwired, BitVec.or_assoc]
    rfl
  rw [← copy]
  rfl

/-- The bytes an IRQ or NMI pushes, its latch already cleared. -/
theorem Entry.interrupt_pushes {e : Entry} (he : e ≠ .brk) (s : State) :
    e.pushes (s.acknowledge e) = entryPushes s := by
  cases e with
  | brk => contradiction
  | irq => rfl
  | nmi => rfl

theorem brk_taken {s : State} (taken : brkTaken s = true) : brk s = s.takeException .brk :=
  (brk_eq s).trans (if_pos taken)

theorem pushes_length_le (o : Operation) (s : State) : (Spec.pushes o s).length ≤ 256 := by
  cases o with
  | push | jsr => simp [Spec.pushes]
  | brk =>
    rw [Spec.pushes]
    split <;> simp
  | _ => exact Nat.zero_le _

/-- Every push of an instruction that is refused is its last act. -/
theorem perform_pushFaulted {opcode : Byte} {o : Operation} {s : State} {k : Nat} (wf : s.mapWellFormed = true)
    (refused : refusedAt (Spec.pushes o s) k s) : (perform opcode o s).final =
      s.pushFaulted (Spec.pushes o s) k (if k = 2 then s.p ||| 0x30 else s.p) := by
  have inside := refused.1
  cases o with
  | push op =>
    obtain rfl : k = 0 := by simpa [Spec.pushes] using inside
    rw [perform, pushValue_eq]
    exact pushByte_faulted wf refused
  | jsr a =>
    have word : k ≠ 2 := by simp [Spec.pushes] at inside; omega
    rw [if_neg word]
    exact State.pushWord_faulted wf refused
  | brk sig =>
    by_cases taken : brkTaken s = true
    · have bytes : Spec.pushes (.brk sig) s = Entry.brk.pushes s :=
        (if_pos taken).trans (Entry.brk_pushes s).symm
      rw [bytes] at refused ⊢
      rw [← setFlag_b_hardwired]
      exact (congrArg Flow.final (brk_taken taken)).trans (State.takeException_faulted wf refused)
    · simp [Spec.pushes, taken] at inside
  | _ => exact absurd inside (Nat.not_lt_zero k)

end Sys2Proof.Machine

namespace Sys2Proof

open Sys2Proof.Machine Sys2Proof.Spec

/-- Settles O53: a taken BRK is an entry. -/
theorem brkTaken : Obligations.BrkTaken := by
  unfold Obligations.BrkTaken
  intro i sig s hi taken h1 h2 h3
  have flow : perform i.opcode (.brk sig) s = .go (Entry.brk.entered s) :=
    (brk_taken taken).trans (State.takeException_entered .brk h1 h2 h3)
  obtain ⟨flagI, flagD, flagB⟩ := Entry.brk.entered_flags s
  have slot := fun j v (hv : (Entry.brk.pushes s)[j]? = some v) => Entry.entered_peek_slot hv
  rw [Entry.brk_pushes] at slot
  refine ⟨_, exec_of_go hi flow, Entry.brk.entered_unfaulted s, Entry.brk.entered_s s, Entry.brk.entered_sameAXY s,
    Entry.brk.entered_sameNVZC s, flagB, flagI, flagD, fun lo hi => Entry.entered_pc (e := .brk), fun wf ram => ?_,
    slot 1 _ rfl, slot 2 _ rfl⟩
  have high := slot 0 _ rfl wf
  rw [sub_ofNat_zero] at high
  exact high ram

/-- Settles O10: the Step is an entry from the state whose serviced latch is cleared. -/
theorem interruptEntryVectorsAndSavesState : Obligations.InterruptEntryVectorsAndSavesState := by
  unfold Obligations.InterruptEntryVectorsAndSavesState
  intro s e running started pending h1 h2 h3
  have interrupt := pendingEntry_ne_brk pending
  have entered := step_of_pending running started pending
  rw [State.takeException_entered e (by simpa using h1) (by simpa using h2) (by simpa using h3)] at entered
  obtain ⟨flagI, flagD, flagB⟩ := e.entered_flags (s.acknowledge e)
  obtain ⟨isNmi, isIrq⟩ := s.acknowledge_latches e
  have slot : ∀ j v, (entryPushes s)[j]? = some v → s.memoryWf → s.isRam (stackAddr (s.s - BitVec.ofNat 8 j)) →
      (e.entered (s.acknowledge e)).peek (stackAddr (s.s - BitVec.ofNat 8 j)) = some v := fun j v hv wf ram => by
    rw [← Entry.interrupt_pushes interrupt] at hv
    simpa using Entry.entered_peek_slot hv (by simpa using wf) (by simpa using ram)
  refine ⟨_, entered, ?_, ?_, ?_, ?_, flagI, flagD, flagB.trans (decide_eq_false interrupt),
    Entry.entered_waiting interrupt _, ?_, ?_, ?_, ?_, fun lo hi hl hh => ?_, fun wf ram => ?_, slot 1 _ rfl,
    slot 2 _ rfl, fun a n0 n1 n2 => ?_⟩
  · simpa [unfaulted] using e.entered_unfaulted (s.acknowledge e)
  · simpa [sameAXY] using e.entered_sameAXY (s.acknowledge e)
  · simpa [sameNVZC] using e.entered_sameNVZC (s.acknowledge e)
  · rw [e.entered_s, State.acknowledge_s]
  · rw [e.entered_stp, State.acknowledge_stp, started]
  · rw [e.entered_ticks, State.acknowledge_ticks]
  · rwa [e.entered_nmiPending, e.entered_irqPending]
  · rwa [e.entered_nmiPending, e.entered_irqPending]
  · exact Entry.entered_pc (by simpa using hl) (by simpa using hh)
  · have high := slot 0 _ rfl wf
    rw [sub_ofNat_zero] at high
    exact high ram
  · rw [e.entered_peek_other (by simpa using n0) (by simpa using n1) (by simpa using n2), State.acknowledge_peek]

/-- Settles O25: each refused Write is the last thing done, and leaves its tick alone. -/
theorem storeIntoReadOnlyMemoryFaults : Obligations.StoreIntoReadOnlyMemoryFaults := by
  unfold Obligations.StoreIntoReadOnlyMemoryFaults
  refine ⟨fun i op dst s hi wf refused => ?_, fun i op dst s hi wf refused => ?_, fun i s k wf refused => ?_,
    fun s e k running started pending wf refused => ?_⟩
  · refine ⟨_, exec_of_refused hi wf refused (effectiveAddress_sameBus dst s) (storeAt_of_refused _ refused), ?_⟩
    have ticks := effectiveAddress_ticks dst s
    rw [Instr.length_of_operation hi]
    simp [writeProtected, sameAXY, Operation.length]
    omega
  · refine ⟨_, exec_of_refused hi wf refused ((readTarget_sameBus dst s).trans (beforeWrite_sameBus ..))
      (performModify_of_refused refused), ?_⟩
    have flags := beforeWrite_flags op (readTarget dst s).m (readTarget dst s).st
    have ticks := readTarget_ticks dst s
    rw [Instr.length_of_operation hi, beforeWrite_eq]
    simp only [readTarget_flag, readTarget_a] at flags
    obtain ⟨outHigh, outLow, tested, keepsC, keepsZ, keepsRest, keepsU⟩ := flags
    refine ⟨by simp [writeProtected], by simp [sameAXY], by simp, outHigh, outLow, tested, keepsC, keepsZ, keepsRest,
      keepsU, ?_, ?_⟩
    · simp [Operation.length]
      omega
    · exact fun a => readTarget_peek dst a s
  · exact ⟨_, exec_final rfl (perform_pushFaulted wf refused),
      State.pushFaulted_refused (pushes_length_le _ _) refused _, rfl,
      by simp [State.pushFaulted], by simp [State.pushFaulted]⟩
  · have interrupt := pendingEntry_ne_brk pending
    have bytes := Entry.interrupt_pushes interrupt s
    have here : refusedAt (e.pushes (s.acknowledge e)) k (s.acknowledge e) := by
      rw [bytes]
      simpa [refusedAt] using refused
    have entered := step_of_pending running started pending
    rw [Flow.outcome_eq, State.takeException_faulted (by simpa using wf) here, Entry.markBreak_of_interrupt interrupt,
      ite_self] at entered
    have left := State.pushFaulted_refused (by simp [Entry.pushes]) here (s.acknowledge e).p
    rw [bytes] at left entered
    refine ⟨_, entered, ?_, ?_, ?_, ?_⟩
    · simpa [pushRefused, writeProtected, sameAXY] using left
    · simp [State.pushFaulted]
    · simpa [State.pushFaulted] using (s.acknowledge_latches e).1
    · simpa [State.pushFaulted] using (s.acknowledge_latches e).2

end Sys2Proof
end

section
/-! Proofs about Reset, the load and Run (R58, R78, R91, R508, R541, R560 to R562). -/

namespace Sys2Proof.Machine

open Sys2Proof.Spec

/-! ## Reset -/

theorem State.hostReset_peek (a : Word) (st : State) : st.hostReset.peek a = st.peek a := by
  rw [State.hostReset, State.withPc_peek, State.busRead_peek, State.busRead_peek]
  rfl

theorem State.hostReset_pc {st : State} {lo hi : Byte} (hl : st.peek 0xFFFC = some lo) (hh : st.peek 0xFFFD = some hi) :
    st.hostReset.pc = wordOf hi lo := by
  have low : (st.resetRegisters.busRead 0xFFFC).1 = lo := State.busRead_of_peek hl
  have high : ((st.resetRegisters.busRead 0xFFFC).2.busRead 0xFFFD).1 = hi :=
    State.busRead_of_peek ((State.busRead_peek ..).trans hh)
  rw [State.hostReset, State.withPc_pc, low, high]

/-- Where the vector's bytes are no I/O device's, Reset writes the registers alone. -/
theorem State.hostReset_of_noIo {st : State} (low : st.noIo 0xFFFC) (high : st.noIo 0xFFFD) :
    st.hostReset = st.resetRegisters.withPc
      (wordOf (st.resetRegisters.busRead 0xFFFD).1 (st.resetRegisters.busRead 0xFFFC).1) := by
  have first : (st.resetRegisters.busRead 0xFFFC).2 = st.resetRegisters := State.busRead_of_noIo low
  have second : (st.resetRegisters.busRead 0xFFFD).2 = st.resetRegisters := State.busRead_of_noIo high
  rw [State.hostReset, first, second]

/-! ## The flash -/

theorem flashFrom_wf {fill : Byte} {capacity : Nat} (bytes : List Byte) {index : Nat} {cells : Cells}
    (room : index + bytes.length ≤ capacity) (wf : Cells.wfFrom fill capacity 0 cells = true) :
    Cells.wfFrom fill capacity 0 (flashFrom fill index bytes cells) = true := by
  induction bytes generalizing index cells with
  | nil => exact wf
  | cons b rest ih =>
    rw [List.length_cons] at room
    exact ih (by omega) (Cells.write_wfFrom fill capacity b (by omega) cells 0 (Nat.zero_le _) wf)

/-- A cell below the image is unchanged. -/
theorem read_flashFrom_below {fill : Byte} {k : Nat} (bytes : List Byte) {index : Nat} (cells : Cells) (h : k < index) :
    Cells.read fill k (flashFrom fill index bytes cells) = Cells.read fill k cells := by
  induction bytes generalizing index cells with
  | nil => rfl
  | cons b rest ih => exact (ih _ (by omega)).trans (Cells.read_write_other fill b (by omega) cells)

/-- The image lies from its first index on, and a cell outside it is unchanged. -/
theorem read_flashFrom {fill : Byte} {capacity : Nat} (k : Nat) (bytes : List Byte) {index : Nat} {cells : Cells}
    (room : index + bytes.length ≤ capacity) (wf : Cells.wfFrom fill capacity 0 cells = true) :
    Cells.read fill k (flashFrom fill index bytes cells) =
      if h : index ≤ k ∧ k - index < bytes.length then bytes[k - index]'h.2 else Cells.read fill k cells := by
  induction bytes generalizing index cells with
  | nil => simp [flashFrom]
  | cons b rest ih =>
    rw [List.length_cons] at room
    have written := Cells.write_wfFrom fill capacity b (by omega : index < capacity) cells 0 (Nat.zero_le _) wf
    rcases Nat.lt_trichotomy k index with below | rfl | above
    · rw [read_flashFrom_below _ _ below, dif_neg (by omega)]
    · rw [flashFrom, read_flashFrom_below _ _ (Nat.lt_succ_self k), Cells.read_write_same fill k b cells capacity 0 wf,
        dif_pos (by simp)]
      simp
    · rw [flashFrom, ih (by omega) written, Cells.read_write_other fill b (by omega) cells]
      obtain ⟨j, rfl⟩ := Nat.exists_eq_add_of_lt above
      simp [show index ≤ index + j + 1 by omega, show index + j + 1 - index = j + 1 by omega,
        show index + j + 1 - (index + 1) = j by omega]

theorem flash_eq {cfg : Config} {image : RomImage} {d : Device} (room : image.bytes.length ≤ d.attr.capacity)
    (size : d.attr.rom32k = true → image.bytes.length = 32768) : flash cfg image d = .ok { d with
      cells := flashFrom (cfg.fill d.attr.mappedIo) (if image.offset then d.attr.capacity - image.bytes.length else 0)
        image.bytes d.cells } := by
  rw [flash, if_neg (by omega), if_neg (by simpa using size)]

/-- A configured range that the device's array does not hold fails the load's test. -/
theorem rangeWithinCapacity_of_exceeds {ranges : List AddressRange} {r : AddressRange} {d : Device} (hr : r ∈ ranges)
    (chip : r.chip = d.attr.mappedIo) (exceeds : d.attr.capacity < r.stop.toNat - r.start.toNat + 1) :
    rangeWithinCapacity ranges d = false := by
  by_contra within
  obtain ⟨room, own⟩ := rangeWithinCapacity_spec (Bool.eq_true_of_not_eq_false within)
  obtain ⟨start, stop⟩ := own r hr chip
  rw [← start, ← stop] at room
  omega

/-- A load puts the parameters and the attached devices on the bus. -/
theorem configure_ok {cfg : Config} {attachments : List Attachment} {s t : State}
    (h : configure cfg attachments s = .ok t) :
    ∃ ds, attachAll cfg attachments = .ok ds ∧ t = { s with cfg := cfg, devices := ds } := by
  unfold configure at h
  split at h
  next ds hds => exact ⟨ds, hds, (Except.ok.inj h).symm⟩
  next => cases h

/-- The error of a load is that of its attachments, whatever the state. -/
theorem configure_error {cfg : Config} {attachments : List Attachment} {s : State} {e : Fault}
    (h : configure cfg attachments s = .error e) (t : State) : configure cfg attachments t = .error e := by
  unfold configure at h ⊢
  split at h
  next => cases h
  next error failed => rw [Except.error.inj h]

/-! ## Run -/

/-- What the last state of a Run shows of how it ended (R541). -/
def RunEnd.ShownBy (t : State) : RunEnd → Prop
  | .cancelled => t.runMode = .stop
  | .atBreakpoint => t.pc ∈ t.breakpoints
  | .refused why => step t = .refused why
  | .faulted r => t.stopped = true ∧ t.faultReason = r
  | .stopped => t.stopped = false ∧ t.stp = true
  | .break => t.stopped = false ∧ t.stp = false ∧ t.flag .b = true
  | .configError _ => False

theorem runCheck_shownBy {t : State} {e : RunEnd} (h : runCheck t = some e) : e.ShownBy t := by
  unfold runCheck at h
  split at h
  next stopped =>
    cases h
    exact ⟨stopped, rfl⟩
  next running =>
    have running := Bool.eq_false_of_not_eq_true running
    split at h
    next stp =>
      cases h
      exact ⟨running, stp⟩
    next started =>
      split at h
      next halted =>
        cases h
        exact ⟨running, Bool.eq_false_of_not_eq_true started, halted⟩
      next => cases h

theorem step_publish_of_refused {s : State} {why : Refusal} (h : step s = .refused why) (e : Event) :
    step (s.publish e) = .refused why :=
  step_eq_refused_iff.2 ((State.publish_action e s).trans (step_eq_refused_iff.1 h))

theorem step_ne_fault (s : State) (e : Fault) : step s ≠ .fault e := instructionsAlwaysAnswerANextState.2.1 s e

theorem runLoop_shownBy {env : List (List Asynchronous)} {first : Bool} {s t : State} {e : RunEnd}
    (h : runLoop env first s = (some e, t)) : e.ShownBy t := by
  induction env generalizing first s with
  | nil => cases h
  | cons now later ih =>
    rw [runLoop] at h
    split at h
    next cancelled =>
      cases h
      exact cancelled
    next =>
      split at h
      next here =>
        cases h
        exact List.contains_iff_mem.1 (Bool.and_eq_true_iff.1 here).2
      next =>
        split at h
        next refused =>
          cases h
          exact step_publish_of_refused refused _
        next error failed => exact absurd failed (step_ne_fault _ error)
        next =>
          split at h
          next ended =>
            cases h
            exact runCheck_shownBy ended
          next => exact ih h

end Sys2Proof.Machine

namespace Sys2Proof

open Sys2Proof.Machine Sys2Proof.Spec

/-- Settles O57: Reset writes every register of R58 and reads the vector; twice it writes the same values. -/
theorem resetCommandSetsTheResetState : Obligations.ResetCommandSetsTheResetState := by
  unfold Obligations.ResetCommandSetsTheResetState
  intro s
  refine ⟨⟨rfl, rfl, rfl, rfl, getFlag_resetStatus .n _, getFlag_resetStatus .v _, getFlag_resetStatus .z _,
    getFlag_resetStatus .c _, getFlag_resetStatus .i _, getFlag_resetStatus .d _, getFlag_resetStatus .b _,
    getFlag_resetStatus .u _, rfl, rfl, rfl, rfl, rfl, rfl, rfl, fun lo hi => State.hostReset_pc,
    fun a => s.hostReset_peek a, rfl, rfl, rfl, rfl⟩, fun low high => ?_⟩
  have same := State.hostReset_of_noIo low high
  rw [same]
  exact State.hostReset_of_noIo low high

/-- Settles O58: the flash is read index by index, and the load's error is that of the first attachment that fails. -/
theorem romFlashPlacesTheImage : Obligations.RomFlashPlacesTheImage := by
  unfold Obligations.RomFlashPlacesTheImage
  refine ⟨fun cfg image d wf => ⟨fun large => ?_, fun room rom size => ?_, fun room size => ?_⟩, ?_, ?_, ?_, rfl,
    rfl, rfl⟩
  · rw [flash, if_pos large]
  · rw [flash, if_neg (by omega), if_pos (by simp [rom, size])]
  · have fits : (if image.offset then d.attr.capacity - image.bytes.length else 0) + image.bytes.length ≤
        d.attr.capacity := by split <;> omega
    exact ⟨_, flash_eq room size, rfl, flashFrom_wf _ fits wf, fun k => read_flashFrom k _ fits wf⟩
  · intro cfg d image rest r s hr chip exceeds
    simp [configure, attachAll, rangeWithinCapacity_of_exceeds hr chip exceeds]
  · intro cfg attachments s e failed
    exact ⟨State.configureAndFlash_of_error failed, by rw [launch, configure_error failed]⟩
  · intro cfg attachments s t loaded
    obtain ⟨ds, attached, rfl⟩ := configure_ok loaded
    exact ⟨rfl, State.configureAndFlash_of_ok loaded, fun d hd a =>
      Device.index_of_within (attachAll_within attached d hd)⟩

/-- Settles O59: each end of the loop is shown by the state it ends with. -/
theorem runEndsOnlyAsListed : Obligations.RunEndsOnlyAsListed := by
  unfold Obligations.RunEndsOnlyAsListed
  intro env s t e h
  have shown : ∀ e', e = e' → e'.ShownBy t := fun _ he => he ▸ runLoop_shownBy h
  exact ⟨shown _, shown _, fun _ => shown _, fun _ => shown _, shown _, shown _, fun _ => shown _⟩

end Sys2Proof
end

section
/-! Proof that D matters to ADC and SBC alone (R41, R219): two runs of an instruction from states that differ in
D only. -/

namespace Sys2Proof.Machine

open Sys2Proof.Spec

/-! ## States that differ in D only -/

/-- The states agree in everything but the flag D. -/
def State.AgreesButD (s t : State) : Prop := ∃ q, t = { s with p := q } ∧ ∀ f, f ≠ .d → getFlag f q = getFlag f s.p

/-- The flows end alike, in states that agree in everything but D. -/
inductive Flow.AgreesButD : Flow → Flow → Prop
  | go {s t : State} (h : s.AgreesButD t) : Flow.AgreesButD (.go s) (.go t)
  | raised {s t : State} (r : FaultReason) (h : s.AgreesButD t) : Flow.AgreesButD (.raised r s) (.raised r t)

theorem State.agreesButD_withFlag {s : State} (unused : s.flag .u = true) (on : Bool) :
    s.AgreesButD (s.withFlag .d on) := by
  refine ⟨_, rfl, fun f hf => ?_⟩
  rw [getFlag_hardwired, getFlag_setFlag, if_neg hf]
  by_cases hu : f = .u
  · subst hu
    exact (Bool.or_true _).trans unused.symm
  · simp [hu]

namespace State.AgreesButD

variable {s t : State} (h : s.AgreesButD t)
include h

theorem flag {f : Flag} (hf : f ≠ .d) : getFlag f t.p = getFlag f s.p := by
  obtain ⟨q, rfl, hq⟩ := h
  exact hq f hf

/-! The registers and the bus. -/

theorem a : t.a = s.a := by obtain ⟨q, rfl, hq⟩ := h; rfl
theorem x : t.x = s.x := by obtain ⟨q, rfl, hq⟩ := h; rfl
theorem y : t.y = s.y := by obtain ⟨q, rfl, hq⟩ := h; rfl
theorem sp : t.s = s.s := by obtain ⟨q, rfl, hq⟩ := h; rfl
theorem pc : t.pc = s.pc := by obtain ⟨q, rfl, hq⟩ := h; rfl

theorem withA (v : Byte) : (s.withA v).AgreesButD (t.withA v) := by
  obtain ⟨q, rfl, hq⟩ := h; exact ⟨q, rfl, hq⟩
theorem withX (v : Byte) : (s.withX v).AgreesButD (t.withX v) := by
  obtain ⟨q, rfl, hq⟩ := h; exact ⟨q, rfl, hq⟩
theorem withY (v : Byte) : (s.withY v).AgreesButD (t.withY v) := by
  obtain ⟨q, rfl, hq⟩ := h; exact ⟨q, rfl, hq⟩
theorem withS (v : Byte) : (s.withS v).AgreesButD (t.withS v) := by
  obtain ⟨q, rfl, hq⟩ := h; exact ⟨q, rfl, hq⟩
theorem withPc (v : Word) : (s.withPc v).AgreesButD (t.withPc v) := by
  obtain ⟨q, rfl, hq⟩ := h; exact ⟨q, rfl, hq⟩
theorem withWaiting (v : Bool) : (s.withWaiting v).AgreesButD (t.withWaiting v) := by
  obtain ⟨q, rfl, hq⟩ := h; exact ⟨q, rfl, hq⟩
theorem withStp (v : Bool) : (s.withStp v).AgreesButD (t.withStp v) := by
  obtain ⟨q, rfl, hq⟩ := h; exact ⟨q, rfl, hq⟩
theorem latch (r : FaultReason) : (s.latch r).AgreesButD (t.latch r) := by
  obtain ⟨q, rfl, hq⟩ := h; exact ⟨q, rfl, hq⟩

theorem memRead (a : Word) : (s.memRead a).2.AgreesButD (t.memRead a).2 ∧ (t.memRead a).1 = (s.memRead a).1 := by
  obtain ⟨q, rfl, hq⟩ := h; exact ⟨⟨q, rfl, hq⟩, rfl⟩

theorem memRead16 (a : Word) :
    (s.memRead16 a).2.AgreesButD (t.memRead16 a).2 ∧ (t.memRead16 a).1 = (s.memRead16 a).1 := by
  obtain ⟨q, rfl, hq⟩ := h; exact ⟨⟨q, rfl, hq⟩, rfl⟩

theorem pull : s.pull.2.AgreesButD t.pull.2 ∧ t.pull.1 = s.pull.1 := by
  obtain ⟨q, rfl, hq⟩ := h; exact ⟨⟨q, rfl, hq⟩, rfl⟩

theorem pullWord : s.pullWord.2.AgreesButD t.pullWord.2 ∧ t.pullWord.1 = s.pullWord.1 := by
  obtain ⟨q, rfl, hq⟩ := h; exact ⟨⟨q, rfl, hq⟩, rfl⟩

theorem effectiveAddress (o : MemOperand) : (effectiveAddress o s).2.AgreesButD (effectiveAddress o t).2 ∧
    (Machine.effectiveAddress o t).1 = (Machine.effectiveAddress o s).1 := by
  obtain ⟨q, rfl, hq⟩ := h; cases o <;> exact ⟨⟨q, rfl, hq⟩, rfl⟩

theorem readSource (src : Source) : (readSource src s).2.AgreesButD (readSource src t).2 ∧
    (Machine.readSource src t).1 = (Machine.readSource src s).1 := by
  cases src with
  | imm m => exact ⟨h, rfl⟩
  | mem o =>
    obtain ⟨left, address⟩ := h.effectiveAddress o
    rw [Machine.readSource, Machine.readSource, address]
    exact left.memRead _

theorem readTarget (dst : MemOperand) : (readTarget dst s).st.AgreesButD (readTarget dst t).st ∧
    (Machine.readTarget dst t).m = (Machine.readTarget dst s).m ∧
      (Machine.readTarget dst t).ea = (Machine.readTarget dst s).ea := by
  obtain ⟨left, address⟩ := h.effectiveAddress dst
  obtain ⟨read, byte⟩ := left.memRead (Machine.effectiveAddress dst s).1
  rw [Machine.readTarget, Machine.readTarget, address]
  exact ⟨read, byte, rfl⟩

/-! Writes of P that give the two sides one value in every flag but D. -/

theorem withP {p q : Byte} (hq : ∀ f, f ≠ .d → getFlag f q = getFlag f p) : (s.withP p).AgreesButD (t.withP q) := by
  obtain ⟨_, rfl, -⟩ := h
  refine ⟨q ||| 0x20, rfl, fun f hf => ?_⟩
  rw [State.withP_p, getFlag_hardwired, getFlag_hardwired, hq f hf]

theorem withFlag (f : Flag) (on : Bool) : (s.withFlag f on).AgreesButD (t.withFlag f on) :=
  h.withP fun g hg => by rw [getFlag_setFlag, getFlag_setFlag, h.flag hg]

theorem setNZ (v : Byte) : (s.setNZ v).AgreesButD (t.setNZ v) :=
  h.withP fun g hg => by simp only [statusNZ, getFlag_setFlag, h.flag hg]

theorem compare (reg m : Byte) : (s.compare reg m).AgreesButD (t.compare reg m) :=
  h.withP fun g hg => by simp only [statusCompare, statusNZ, getFlag_setFlag, h.flag hg]

theorem carry : t.flag .c = s.flag .c := h.flag nofun

/-! The operations' own updates. -/

theorem applyRead {op : ReadOp} (hadc : op ≠ .adc) (hsbc : op ≠ .sbc) (src : Source) (m : Byte) :
    (applyRead op src m s).AgreesButD (applyRead op src m t) := by
  cases op with
  | adc | sbc => contradiction
  | lda => exact (h.withA m).setNZ m
  | ldx => exact (h.withX m).setNZ m
  | ldy => exact (h.withY m).setNZ m
  | and | ora | eor =>
    rw [Machine.applyRead, Machine.applyRead, h.a]
    exact (h.withA _).setNZ _
  | cmp =>
    rw [Machine.applyRead, Machine.applyRead, h.a]
    exact h.compare ..
  | cpx =>
    rw [Machine.applyRead, Machine.applyRead, h.x]
    exact h.compare ..
  | cpy =>
    rw [Machine.applyRead, Machine.applyRead, h.y]
    exact h.compare ..
  | bit =>
    rw [Machine.applyRead, Machine.applyRead, h.a]
    refine h.withP fun g hg => ?_
    cases src with
    | imm => simp only [bitStatus, getFlag_statusBitTest, h.flag hg]
    | mem => simp only [bitStatus, getFlag_statusBitMemory, h.flag hg]

theorem applyAcc (op : AccOp) : (applyAcc op s).AgreesButD (applyAcc op t) := by
  cases op with
  | asl | lsr | rol | ror =>
    rw [Machine.applyAcc, Machine.applyAcc, h.a, h.carry]
    exact ((h.withFlag ..).withA _).setNZ _
  | inc | dec =>
    rw [Machine.applyAcc, Machine.applyAcc, h.a]
    exact (h.withA _).setNZ _

theorem applyRegister (op : RegisterOp) : (applyRegister op s).AgreesButD (applyRegister op t) := by
  cases op with
  | tax | tsx | inx | dex =>
    simp only [Machine.applyRegister, h.a, h.x, h.sp]
    exact (h.withX _).setNZ _
  | tay | iny | dey =>
    simp only [Machine.applyRegister, h.a, h.y]
    exact (h.withY _).setNZ _
  | txa | tya =>
    simp only [Machine.applyRegister, h.x, h.y]
    exact (h.withA _).setNZ _
  | txs =>
    rw [Machine.applyRegister, Machine.applyRegister, h.x]
    exact h.withS _

theorem applyPull (op : PullOp) (v : Byte) : (applyPull op v s).AgreesButD (applyPull op v t) := by
  cases op with
  | pla => exact (h.withA v).setNZ v
  | plx => exact (h.withX v).setNZ v
  | ply => exact (h.withY v).setNZ v
  | plp => exact h.withP fun _ _ => rfl

theorem beforeWrite (op : ModifyOp) (m : Byte) : (beforeWrite op m s).AgreesButD (beforeWrite op m t) := by
  cases op with
  | asl | lsr | rol | ror =>
    simp only [Machine.beforeWrite, h.carry]
    exact h.withFlag ..
  | trb | tsb => exact h.withP fun g hg => by simp only [getFlag_statusBitTest, h.a, h.flag hg]
  | inc | dec | rmb | smb => exact h

theorem modified (op : ModifyOp) (m : Byte) : modified op m t = modified op m s := by
  cases op with
  | rol | ror => rw [Machine.modified, Machine.modified, h.carry]
  | trb | tsb => rw [Machine.modified, Machine.modified, h.a]
  | asl | lsr | inc | dec | rmb | smb => rfl

theorem afterWrite (op : ModifyOp) (r : Byte) : (afterWrite op r s).AgreesButD (afterWrite op r t) := by
  cases op with
  | asl | lsr | rol | ror | inc | dec => exact h.setNZ r
  | trb | tsb | rmb | smb => exact h

theorem branchCond (op : BranchOp) : branchCond op t = branchCond op s := by
  cases op with
  | bpl | bvc | bcc | bne => exact congrArg not (h.flag nofun)
  | bmi | bvs | bcs | beq => exact h.flag nofun
  | bra => rfl

/-! Flows. -/

theorem setPC (target : Int) : (s.setPC target).AgreesButD (t.setPC target) := by
  have later := h
  obtain ⟨q, rfl, hq⟩ := h
  by_cases fits : s.pcFits target
  · rw [State.setPC_of_fits fits, State.setPC_of_fits (st := { s with p := q }) fits]
    exact .go (later.withPc _)
  · rw [State.setPC_of_not_fits fits, State.setPC_of_not_fits (st := { s with p := q }) fits]
    exact .raised _ later

theorem sequential (len : Nat) : (s.sequential len).AgreesButD (t.sequential len) := by
  rw [State.sequential, State.sequential, h.pc]
  exact h.setPC _

theorem memWrite (a : Word) (v : Byte) : (s.memWrite a v).AgreesButD (t.memWrite a v) := by
  obtain ⟨q, rfl, hq⟩ := h
  have stored : (s.stored a v).AgreesButD (State.stored a v { s with p := q }) := ⟨q, rfl, hq⟩
  cases writable : s.writable a with
  | true =>
    rw [State.memWrite_of_writable v writable, State.memWrite_of_writable (st := { s with p := q }) v writable]
    exact .go stored
  | false =>
    rw [State.memWrite_of_not_writable v writable, State.memWrite_of_not_writable (st := { s with p := q }) v writable]
    exact .raised _ stored

end State.AgreesButD

namespace Flow.AgreesButD

theorem andThen {f g : Flow} {k l : State → Flow} (h : f.AgreesButD g)
    (next : ∀ s t : State, s.AgreesButD t → (k s).AgreesButD (l t)) : (f.andThen k).AgreesButD (g.andThen l) := by
  cases h with
  | go h => exact next _ _ h
  | raised r h => exact .raised r h

theorem final {f g : Flow} (h : f.AgreesButD g) : f.final.AgreesButD g.final := by
  cases h with
  | go h => exact h
  | raised r h => exact h.latch r

end Flow.AgreesButD

namespace State.AgreesButD

variable {s t : State} (h : s.AgreesButD t)
include h

theorem push (v : Byte) : (s.push v).AgreesButD (t.push v) := by
  rw [State.push, State.push, State.spAddr, State.spAddr, h.sp]
  refine (h.memWrite _ v).andThen fun _ _ h => ?_
  rw [h.sp]
  exact .go (h.withS _)

theorem pushWord (w : Word) : (s.pushWord w).AgreesButD (t.pushWord w) := (h.push _).andThen fun _ _ h => h.push _

theorem performRead {op : ReadOp} (hadc : op ≠ .adc) (hsbc : op ≠ .sbc) (opcode : Byte) (src : Source) :
    (performRead opcode op src s).AgreesButD (performRead opcode op src t) := by
  have completes : ∀ u, readFaults op u = false := fun u => by simp [readFaults, hadc, hsbc]
  obtain ⟨left, operand⟩ := h.readSource src
  rw [Machine.performRead, Machine.performRead, completes, completes, operand]
  exact (left.applyRead hadc hsbc src _).sequential _

theorem performModify (op : ModifyOp) (dst : MemOperand) :
    (performModify op dst s).AgreesButD (performModify op dst t) := by
  obtain ⟨left, byte, address⟩ := h.readTarget dst
  rw [Machine.performModify, Machine.performModify, byte, address, left.modified]
  exact ((left.beforeWrite op _).memWrite _ _).andThen fun _ _ h => (h.afterWrite op _).sequential _

theorem storeAt (dst : MemOperand) (v : Byte) : (storeAt dst v s).AgreesButD (storeAt dst v t) := by
  obtain ⟨left, address⟩ := h.effectiveAddress dst
  rw [Machine.storeAt, Machine.storeAt, address]
  exact (left.memWrite _ v).andThen fun _ _ h => h.sequential _

theorem branch (cond : Bool) (d : Byte) : (branch cond d s).AgreesButD (branch cond d t) := by
  rw [Machine.branch, Machine.branch, h.pc]
  split
  · exact h.setPC _
  · exact h.setPC _

theorem branchBit (n : Nat) (want : Bool) (z d : Byte) :
    (branchBit n want z d s).AgreesButD (branchBit n want z d t) := by
  obtain ⟨left, byte⟩ := h.memRead (zext z)
  rw [Machine.branchBit, Machine.branchBit, byte, left.pc]
  split
  · exact left.setPC _
  · exact left.setPC _

theorem returnFromException : s.returnFromException.AgreesButD t.returnFromException := by
  obtain ⟨left, status⟩ := h.pull
  rw [State.returnFromException, State.returnFromException, status]
  obtain ⟨left, address⟩ := (left.withP (p := pulledStatus s.pull.1) fun _ _ => rfl).pullWord
  rw [address]
  exact left.setPC _

/-- Every operation but ADC, SBC, PHP and BRK carries the agreement on. -/
theorem perform {o : Operation} (hadc : ∀ src, o ≠ .read .adc src) (hsbc : ∀ src, o ≠ .read .sbc src)
    (hphp : o ≠ .push .php) (hbrk : ∀ sig, o ≠ .brk sig) (opcode : Byte) :
    (perform opcode o s).AgreesButD (perform opcode o t) := by
  cases o with
  | read op src =>
    have plain : op ≠ .adc ∧ op ≠ .sbc := ⟨fun e => hadc src (e ▸ rfl), fun e => hsbc src (e ▸ rfl)⟩
    rw [perform_read, perform_read]
    exact h.performRead plain.1 plain.2 opcode src
  | write op dst =>
    have value : writeValue op t = writeValue op s := by
      cases op with
      | sta => exact h.a
      | stx => exact h.x
      | sty => exact h.y
      | stz => rfl
    rw [Machine.perform, Machine.perform, value]
    exact h.storeAt dst _
  | modify op dst => exact h.performModify op dst
  | accumulator op => exact (h.applyAcc op).sequential 1
  | register op => exact (h.applyRegister op).sequential 1
  | flag op => exact (h.withFlag ..).sequential 1
  | push op =>
    have value : pushValue op t = pushValue op s := by
      cases op with
      | pha => exact h.a
      | phx => exact h.x
      | phy => exact h.y
      | php => contradiction
    rw [Machine.perform, Machine.perform, value]
    exact (h.push _).andThen fun _ _ h => h.sequential 1
  | pull op =>
    obtain ⟨left, byte⟩ := h.pull
    rw [Machine.perform, Machine.perform, byte]
    exact (left.applyPull op _).sequential 1
  | branch op d =>
    rw [Machine.perform, Machine.perform, h.branchCond]
    exact h.branch _ d
  | branchBit n want z d => exact h.branchBit n want z d
  | jmp a => exact h.setPC _
  | jmpInd a =>
    obtain ⟨left, target⟩ := h.memRead16 a
    rw [Machine.perform, Machine.perform, jmpIndirect, jmpIndirect, indirectTarget, indirectTarget, target]
    exact left.setPC _
  | jmpIndX a =>
    obtain ⟨left, target⟩ := h.memRead16 (a + zext s.x)
    rw [Machine.perform, Machine.perform, jmpIndexedIndirect, jmpIndexedIndirect, indexedIndirectTarget,
      indexedIndirectTarget, h.x, target]
    exact left.setPC _
  | jsr a =>
    rw [Machine.perform, Machine.perform, jsr, jsr, h.pc]
    exact (h.pushWord _).andThen fun _ _ h => h.setPC _
  | rts =>
    obtain ⟨left, target⟩ := h.pullWord
    rw [Machine.perform, Machine.perform, rts, rts, target]
    exact left.setPC _
  | rti => exact h.returnFromException
  | brk sig => exact absurd rfl (hbrk sig)
  | wai => exact (h.withWaiting true).sequential 1
  | stp => exact (h.withStp true).sequential 1
  | nop => exact h.sequential 1

end State.AgreesButD

end Sys2Proof.Machine

namespace Sys2Proof

open Sys2Proof.Machine Sys2Proof.Spec

/-- Settles O60: the two runs agree step by step in everything but D. -/
theorem decimalFlagMattersOnlyToAdcAndSbc : Obligations.DecimalFlagMattersOnlyToAdcAndSbc := by
  unfold Obligations.DecimalFlagMattersOnlyToAdcAndSbc
  intro i s d unused plain hphp hbrk
  have agree := (State.agreesButD_withFlag unused d).perform (fun src => (plain src).1) (fun src => (plain src).2)
    hphp hbrk i.opcode
  obtain ⟨q, hq, flags⟩ := agree.final
  refine ⟨_, _, exec_final rfl rfl, exec_final rfl rfl, ?_, fun f hf => ?_⟩
  · rw [hq]
  · rw [hq]
    exact flags f hf

end Sys2Proof
end
